-- ==== Sys2Proof/Word.lean ====
section
/-! DEFINITION. The plainest values of IHC-FC: bytes and finite byte sequences (spec rule R6).
Nothing in this hardware is signed, and nothing the block handles is wider than one byte. -/

namespace Sys2Proof

/-- R6: a byte, an unsigned integer in 0..255. -/
abbrev Byte := BitVec 8

/-- R6: a byte sequence, a finite list of bytes indexed from 0. -/
abbrev Bytes := List Byte

/-- R5, R20: a device address. It is opaque to the block: nothing in the model looks inside it. -/
abbrev Address := List Byte

/-- R67, R171: the mask of one input module, the only quantity of the spec wider than a byte. -/
abbrev InputMask := BitVec 16

end Sys2Proof
end

