-- ==== Sys2Proof/Config.lean ====
section
/-! DEFINITION. What is fixed for a machine before it leaves reset (the record `Params` of R5), what the
environment supplies at each step (the clock, the line, the device failures: R28 to R30, R32), and the
values the spec leaves open, as constants with no body (assumption log 2 to 6). -/

namespace Sys2Proof

/-- R5: the parameters of the block and of the host around it. The arguments of OPEN, READ_AVAILABLE
and RX_STEP that R5 lists beside them are operands of those instructions. -/
structure Params where
  /-- `START`, the first byte of every frame. -/
  startMarker : Byte
  /-- `END`, the last byte before the checksum; it may equal `START` (R105). -/
  endMarker : Byte
  /-- `SILENCE_MS`, the quiet interval that gates decoding (R152). -/
  silenceMs : Nat
  /-- `RXBUF_CAP`; `none` is unbounded (R162). -/
  rxbufCap : Option Nat
  /-- `TX_MAX_LEN`; `none` is unbounded (R95). -/
  txMaxLen : Option Nat
  /-- `HOST_PEER_ID`, the id byte of a data-ready frame meant for this host (R177). -/
  hostPeerId : Byte
  /-- `CONTROLLER_ID`, the id byte of every frame the host sends (R184). -/
  controllerId : Byte
  opcDataReady : Byte
  opcOutputStateReport : Byte
  opcInputStateReport : Byte
  opcInputActivated : Byte
  opcSetOutput : Byte
  opcRequestOutputs : Byte
  opcRequestInputs : Byte
  /-- `OUT_COUNT`, the number of output modules. -/
  outCount : Nat
  /-- `IN_COUNT`, the number of input modules. -/
  inCount : Nat
  /-- `POLL_INTERVAL_MS`. -/
  pollIntervalMs : Nat
  deriving DecidableEq, Repr

/-- R28, R136: one byte the peer will deliver on `LINE_IN`. It is there from `time` on, but not before the
machine's `turn`-th step: with the two, the line agent may act at any time and any number of times
between two operations, also within one millisecond. -/
structure Arrival where
  time : Nat
  turn : Nat
  byte : Byte
  deriving DecidableEq, Repr, Inhabited

/-- R64, R173: a command waiting to be sent, as the pair of its command byte and payload. -/
structure Command where
  opcode : Byte
  payload : Bytes
  deriving DecidableEq, Repr, Inhabited

/-- R29, R30, R195, R240: what happens around the I/O loop before one step: a reading of the clock, the
shutdown signal, a command of the concurrent producer, a restart of the process. -/
structure Tick where
  reading : Nat
  shutdown : Bool
  submitted : Option Command
  restart : Bool
  deriving DecidableEq, Repr, Inhabited

/-- R121, R32: the draw of one transport operation: whether the device fails, and how many bytes of a
failed write reached the wire. -/
structure Draw where
  fail : Bool
  wireCount : Nat
  deriving DecidableEq, Repr, Inhabited

/-- R20: the pair latched by the last successful OPEN. -/
structure LinkCfg where
  address : Address
  baudRate : Nat
  deriving DecidableEq, Repr, Inhabited

namespace Config

/-- `START` of this machine: OPEN in the spec (D4). -/
opaque startMarker : Byte
/-- `END` of this machine: OPEN in the spec (D4). -/
opaque endMarker : Byte
/-- `HOST_PEER_ID`: OPEN (D23). -/
opaque hostPeerId : Byte
/-- `CONTROLLER_ID`: OPEN (D32). -/
opaque controllerId : Byte
/-- `OPC_DATA_READY`: OPEN (U4). -/
opaque opcDataReady : Byte
/-- `OPC_OUTPUT_STATE_REPORT`: OPEN (U4). -/
opaque opcOutputStateReport : Byte
/-- `OPC_INPUT_STATE_REPORT`: OPEN (U4). -/
opaque opcInputStateReport : Byte
/-- `OPC_INPUT_ACTIVATED`: OPEN (U4). -/
opaque opcInputActivated : Byte
/-- `OPC_SET_OUTPUT`: OPEN (U4). -/
opaque opcSetOutput : Byte
/-- `OPC_REQUEST_OUTPUTS`: OPEN (U4). -/
opaque opcRequestOutputs : Byte
/-- `OPC_REQUEST_INPUTS`: OPEN (U4). -/
opaque opcRequestInputs : Byte
/-- `OUT_COUNT` less one: the count is a positive integer and OPEN (R197, U21). -/
opaque outCountLessOne : Nat
/-- `IN_COUNT` less one: the count is a positive integer and OPEN (R197, U21). -/
opaque inCountLessOne : Nat
/-- `POLL_INTERVAL_MS` less one: the interval is positive and OPEN (R197, U21). -/
opaque pollIntervalLessOne : Nat

/-- `SetOutputPayload(module, outputIndex, desiredState)`: a function the spec does not define (R184). -/
opaque setOutputPayload : Nat → Nat → Nat → Bytes
/-- `RequestOutputsPayload(module)`: a function the spec does not define (R184). -/
opaque requestOutputsPayload : Nat → Bytes
/-- `RequestInputsPayload(module)`: a function the spec does not define (R184). -/
opaque requestInputsPayload : Nat → Bytes

/-- What the peer will send and when, from reset on: any value (U15). -/
opaque freeLineIn : List Arrival
/-- The `n`-th tick of the environment where none is scripted: any value (R29, R30). -/
opaque freeTick : Nat → Tick
/-- The `n`-th draw of the device where none is scripted: any value (U10, U11). -/
opaque freeDraw : Nat → Draw
/-- `LINK_CFG` as it reads while the link is closed: any value (R20, U13). -/
opaque freeLinkCfg : Nat → LinkCfg

/-- The parameters of the machine that `State.reset` is: every parameter the spec leaves OPEN is a
constant without a body; `SILENCE_MS`, `RXBUF_CAP` and `TX_MAX_LEN` are at the defaults R5 states. -/
def params : Params where
  startMarker := startMarker
  endMarker := endMarker
  silenceMs := 50
  rxbufCap := none
  txMaxLen := none
  hostPeerId := hostPeerId
  controllerId := controllerId
  opcDataReady := opcDataReady
  opcOutputStateReport := opcOutputStateReport
  opcInputStateReport := opcInputStateReport
  opcInputActivated := opcInputActivated
  opcSetOutput := opcSetOutput
  opcRequestOutputs := opcRequestOutputs
  opcRequestInputs := opcRequestInputs
  outCount := outCountLessOne + 1
  inCount := inCountLessOne + 1
  pollIntervalMs := pollIntervalLessOne + 1

end Config

end Sys2Proof
end

