-- ==== Sys2Proof/Syntax.lean ====
section
/-! DEFINITION. The instructions of IHC-FC: one constructor for each of the nine operations of R70 and
each of the seven frame commands of R72, and the forms in which they are presented to the machine
(R71, R81, R82). -/

namespace Sys2Proof

/-- Every row of the opcode table. The first nine are the block's operations (R70). The next four are
frames from the controller as the host's dispatch sees them, with their id byte and payload (R176).
The last three are the host's outbound commands, with the arguments from which the spec's payload
functions make their payloads (R185, R186). -/
inductive Instr where
  /-- OPEN address, baudRate (R122). -/
  | openLink (address : Address) (baudRate : Nat)
  /-- CLOSE (R132). -/
  | close
  /-- READ_AVAILABLE maxWait (R124). -/
  | readAvailable (maxWait : Nat)
  /-- WRITE_FRAME bytes (R127). -/
  | writeFrame (bytes : Bytes)
  /-- FLUSH (R130). -/
  | flush
  /-- ENCODE id, command, payload (R95). -/
  | encode (id command : Byte) (payload : Bytes)
  /-- DECODE buffer (R100). -/
  | decode (buffer : Bytes)
  /-- RX_STEP maxWait (R153). -/
  | rxStep (maxWait : Nat)
  /-- SEND id, command, payload (R160). -/
  | send (id command : Byte) (payload : Bytes)
  /-- DATA_READY (R177). -/
  | dataReady (id : Byte) (payload : Bytes)
  /-- OUTPUT_STATE_REPORT (R178). -/
  | outputStateReport (id : Byte) (payload : Bytes)
  /-- INPUT_STATE_REPORT (R179). -/
  | inputStateReport (id : Byte) (payload : Bytes)
  /-- INPUT_ACTIVATED (R181). -/
  | inputActivated (id : Byte) (payload : Bytes)
  /-- SET_OUTPUT for an output of a module (R185). -/
  | setOutput (moduleIndex outputIndex desiredState : Nat)
  /-- REQUEST_OUTPUTS of a module (R186, R187). -/
  | requestOutputs (moduleIndex : Nat)
  /-- REQUEST_INPUTS of a module (R186, R187). -/
  | requestInputs (moduleIndex : Nat)
  deriving DecidableEq, Repr

/-- R71: the operands of a request on the op port. An operation reads the fields R70 names for it. -/
structure Operands where
  address : Address
  baudRate : Nat
  maxWait : Nat
  bytes : Bytes
  id : Byte
  command : Byte
  deriving DecidableEq, Repr

/-- R187: which of the two queries `requestModuleRefresh` asks for. -/
inductive PollKind where
  | outputs
  | inputs
  deriving DecidableEq, Repr

/-- One thing the host does, in the form in which it presents it: a request on the block's op port
(R71), the dispatch of a received frame (R176), or one of the two calls of the host's command
interface (R82, R185, R187). The argument `kind` of submitCommand is dropped, as U20 allows. -/
inductive HostAction where
  | request (op : BitVec 4) (operands : Operands)
  | dispatchFrame (frame : Bytes)
  | submitCommand (moduleIndex outputIndex desiredState : Nat)
  | requestModuleRefresh (moduleIndex : Nat) (kind : PollKind)
  deriving DecidableEq, Repr

/-- R100, R101: the five outcomes of DECODE. -/
inductive DecodeStatus where
  | noStart
  | incomplete
  | checksumError
  | malformedShort
  | frameOk
  deriving DecidableEq, Repr

/-- R100: what DECODE returns. -/
structure DecodeResult where
  status : DecodeStatus
  frame : Option Bytes
  consumed : Nat
  deriving DecidableEq, Repr

end Sys2Proof
end

