-- ==== Sys2Proof/WellFormed.lean ====
section
/-! DEFINITION. Which parameters and which instructions are well formed: the positive quantities of
R197 and R248, the distinct command bytes of D34, and the frame fields that contain no end marker,
without which a frame is not received as it was sent (R106, R250). -/

namespace Sys2Proof

/-- R197, R248: the configuration a host validates before it issues any operation. -/
def Params.validated (p : Params) : Bool :=
  decide (0 < p.outCount) && decide (0 < p.inCount) && decide (0 < p.pollIntervalMs)

/-- R5, D34: the four inbound command bytes differ from each other. -/
def Params.inboundDistinct (p : Params) : Bool :=
  decide ([p.opcDataReady, p.opcOutputStateReport, p.opcInputStateReport, p.opcInputActivated].Nodup)

/-- R5, D34: the three outbound command bytes differ from each other. -/
def Params.outboundDistinct (p : Params) : Bool :=
  decide ([p.opcSetOutput, p.opcRequestOutputs, p.opcRequestInputs].Nodup)

/-- Every premise the spec puts on the parameter record. -/
def Params.wf (p : Params) : Bool :=
  p.validated && p.inboundDistinct && p.outboundDistinct

/-- R106: no field of the frame equals the end marker. -/
def fieldsAvoidEnd (p : Params) (id command : Byte) (payload : Bytes) : Bool :=
  decide (id ≠ p.endMarker) && decide (command ≠ p.endMarker) &&
    decide (p.endMarker ∉ payload)

/-- An instruction whose operands are in the ranges the spec gives them: OPEN's speed is a positive
integer (R122, R248), and a frame handed to the dispatch holds no end marker in its fields, as every
frame DECODE returns (R104). -/
def Instr.wf (p : Params) : Instr → Bool
  | .openLink _ baudRate => decide (0 < baudRate)
  | .close => true
  | .readAvailable _ => true
  | .writeFrame _ => true
  | .flush => true
  | .encode _ _ _ => true
  | .decode _ => true
  | .rxStep _ => true
  | .send _ _ _ => true
  | .dataReady id payload => fieldsAvoidEnd p id p.opcDataReady payload
  | .outputStateReport id payload => fieldsAvoidEnd p id p.opcOutputStateReport payload
  | .inputStateReport id payload => fieldsAvoidEnd p id p.opcInputStateReport payload
  | .inputActivated id payload => fieldsAvoidEnd p id p.opcInputActivated payload
  | .setOutput _ _ _ => true
  | .requestOutputs _ => true
  | .requestInputs _ => true

end Sys2Proof
end

