-- ==== Sys2Proof/Decode.lean ====
section
/-! DEFINITION. The frame codec as pure functions (CHECKSUM, ENCODE, DECODE and the field accessors: R60,
R65, R66, R90, R95, R100), and, over it, the decoder and the encoder of instructions: from what the
host presents (a request of the op port, a frame, a call of the command interface) to an instruction,
and back (R70 to R73, R75, R76, R82). -/

namespace Sys2Proof

/-! ### The frame format -/

/-- R6: the half-open slice `l[a:b]`. -/
def slice (l : Bytes) (a b : Nat) : Bytes := (l.drop a).take (b - a)

/-- R90: the sum of all bytes as naturals, modulo 256. -/
def checksum (bs : Bytes) : Byte := BitVec.ofNat 8 (bs.map BitVec.toNat).sum

/-- R95: a frame less its checksum: `[START, id, command] ++ payload ++ [END]`. -/
def frameBody (p : Params) (id command : Byte) (payload : Bytes) : Bytes :=
  [p.startMarker, id, command] ++ payload ++ [p.endMarker]

/-- R60, R95: the whole frame, the body followed by its checksum. -/
def buildFrame (p : Params) (id command : Byte) (payload : Bytes) : Bytes :=
  frameBody p id command payload ++ [checksum (frameBody p id command payload)]

/-- R95, R127: whether `n` bytes are no more than `TX_MAX_LEN`. -/
def fitsTransport (p : Params) (n : Nat) : Bool :=
  match p.txMaxLen with
  | none => true
  | some limit => decide (n ≤ limit)

/-- R95: ENCODE. `none` is its refusal of a frame longer than the transport takes. -/
def encodeFrame (p : Params) (id command : Byte) (payload : Bytes) : Option Bytes :=
  if fitsTransport p ((frameBody p id command payload).length + 1) then
    some (buildFrame p id command payload)
  else none

/-- R65: `FRAME_ID`. -/
def frameId (f : Bytes) : Byte := f.getD 1 0
/-- R65: `FRAME_COMMAND`. -/
def frameCommand (f : Bytes) : Byte := f.getD 2 0
/-- R65: `FRAME_PAYLOAD`, offsets 3 to L-3. -/
def framePayload (f : Bytes) : Bytes := slice f 3 (f.length - 2)
/-- R65: `FRAME_END`. -/
def frameEnd (f : Bytes) : Byte := f.getD (f.length - 2) 0
/-- R65: `FRAME_CHECKSUM`. -/
def frameChecksum (f : Bytes) : Byte := f.getD (f.length - 1) 0

/-- R7: the least index at which `b` stands in a sequence. -/
def leastIndex (b : Byte) : Bytes → Option Nat
  | [] => none
  | x :: xs => if x = b then some 0 else (leastIndex b xs).map (· + 1)

/-- R93, R100, R222: the tests made of a candidate, checksum first and length second; `consumed` is the
count reported with it. -/
def judgeCandidate (cand : Bytes) (consumed : Nat) : DecodeResult :=
  if checksum (slice cand 0 (cand.length - 1)) ≠ frameChecksum cand then
    { status := .checksumError, frame := none, consumed := consumed }
  else if cand.length < 5 then
    { status := .malformedShort, frame := none, consumed := consumed }
  else { status := .frameOk, frame := some cand, consumed := consumed }

/-- R100: DECODE. The search for `END` begins one byte after `START`. -/
def decodeBuffer (p : Params) (buf : Bytes) : DecodeResult :=
  match leastIndex p.startMarker buf with
  | none => { status := .noStart, frame := none, consumed := buf.length }
  | some s =>
    match leastIndex p.endMarker (buf.drop (s + 1)) with
    | none => { status := .incomplete, frame := none, consumed := s }
    | some j =>
      if s + 1 + j + 1 < buf.length then
        judgeCandidate (slice buf s (s + 1 + j + 2)) (s + 1 + j + 2)
      else { status := .incomplete, frame := none, consumed := s }

/-! ### Instructions -/

/-- Why the decoder reads no instruction. -/
inductive Reject where
  /-- R75: op codes 0x0 and 0xA to 0xF select no operation. -/
  | reservedOp
  /-- The bytes handed to the dispatch are no frame that DECODE returns (R65, R176). -/
  | notAFrame
  /-- R182: the frame's command byte is none of the four inbound ones. -/
  | ignoredCommand
  deriving DecidableEq, Repr

/-- What the decoder answers. -/
inductive Decoded where
  | instr (i : Instr)
  | rejected (r : Reject)
  deriving DecidableEq, Repr

/-- R70, R75: the operation a request of the op port selects. -/
def decodeRequest (op : BitVec 4) (a : Operands) : Decoded :=
  match op.toNat with
  | 0x1 => .instr (.openLink a.address a.baudRate)
  | 0x2 => .instr .close
  | 0x3 => .instr (.readAvailable a.maxWait)
  | 0x4 => .instr (.writeFrame a.bytes)
  | 0x5 => .instr .flush
  | 0x6 => .instr (.encode a.id a.command a.bytes)
  | 0x7 => .instr (.decode a.bytes)
  | 0x8 => .instr (.rxStep a.maxWait)
  | 0x9 => .instr (.send a.id a.command a.bytes)
  | _ => .rejected .reservedOp

/-- R72, R176: the row of the dispatch table a frame's command byte selects, in the table's order. -/
def classifyFrame (p : Params) (f : Bytes) : Decoded :=
  if frameCommand f = p.opcDataReady then .instr (.dataReady (frameId f) (framePayload f))
  else if frameCommand f = p.opcOutputStateReport then
    .instr (.outputStateReport (frameId f) (framePayload f))
  else if frameCommand f = p.opcInputStateReport then
    .instr (.inputStateReport (frameId f) (framePayload f))
  else if frameCommand f = p.opcInputActivated then
    .instr (.inputActivated (frameId f) (framePayload f))
  else .rejected .ignoredCommand

/-- R176: the dispatch of a frame. Only a sequence that DECODE returns whole is a frame. -/
def decodeDispatch (p : Params) (f : Bytes) : Decoded :=
  if (decodeBuffer p f).frame = some f then classifyFrame p f else .rejected .notAFrame

/-- The instruction of what the host presents; total, and every rejection has a name. -/
def decode (p : Params) : HostAction → Decoded
  | .request op a => decodeRequest op a
  | .dispatchFrame f => decodeDispatch p f
  | .submitCommand m o d => .instr (.setOutput m o d)
  | .requestModuleRefresh m .outputs => .instr (.requestOutputs m)
  | .requestModuleRefresh m .inputs => .instr (.requestInputs m)

/-- The operand record whose words are all zero. OPEN's speed is a positive integer (R71, R122): its
first value is 1 (assumption log 9). -/
def Operands.zero : Operands where
  address := []
  baudRate := 1
  maxWait := 0
  bytes := []
  id := 0
  command := 0

/-- R70: the op code of an operation; `none` for a frame command. -/
def opCode : Instr → Option (BitVec 4)
  | .openLink _ _ => some 0x1
  | .close => some 0x2
  | .readAvailable _ => some 0x3
  | .writeFrame _ => some 0x4
  | .flush => some 0x5
  | .encode _ _ _ => some 0x6
  | .decode _ => some 0x7
  | .rxStep _ => some 0x8
  | .send _ _ _ => some 0x9
  | .dataReady _ _ => none
  | .outputStateReport _ _ => none
  | .inputStateReport _ _ => none
  | .inputActivated _ _ => none
  | .setOutput _ _ _ => none
  | .requestOutputs _ => none
  | .requestInputs _ => none

/-- R60, R72, R184 to R186: the frame of a frame command, `S i c p* E k`; `none` for an operation. -/
def rowFrame (p : Params) : Instr → Option Bytes
  | .openLink _ _ => none
  | .close => none
  | .readAvailable _ => none
  | .writeFrame _ => none
  | .flush => none
  | .encode _ _ _ => none
  | .decode _ => none
  | .rxStep _ => none
  | .send _ _ _ => none
  | .dataReady id payload => some (buildFrame p id p.opcDataReady payload)
  | .outputStateReport id payload => some (buildFrame p id p.opcOutputStateReport payload)
  | .inputStateReport id payload => some (buildFrame p id p.opcInputStateReport payload)
  | .inputActivated id payload => some (buildFrame p id p.opcInputActivated payload)
  | .setOutput m o d =>
      some (buildFrame p p.controllerId p.opcSetOutput (Config.setOutputPayload m o d))
  | .requestOutputs m =>
      some (buildFrame p p.controllerId p.opcRequestOutputs (Config.requestOutputsPayload m))
  | .requestInputs m =>
      some (buildFrame p p.controllerId p.opcRequestInputs (Config.requestInputsPayload m))

/-- What the host presents for an instruction: the request of an operation, the frame of an inbound
command, the call of an outbound one. -/
def encode (p : Params) : Instr → HostAction
  | .openLink address baudRate =>
      .request 0x1 { Operands.zero with address := address, baudRate := baudRate }
  | .close => .request 0x2 Operands.zero
  | .readAvailable maxWait => .request 0x3 { Operands.zero with maxWait := maxWait }
  | .writeFrame bytes => .request 0x4 { Operands.zero with bytes := bytes }
  | .flush => .request 0x5 Operands.zero
  | .encode id command payload =>
      .request 0x6 { Operands.zero with id := id, command := command, bytes := payload }
  | .decode buffer => .request 0x7 { Operands.zero with bytes := buffer }
  | .rxStep maxWait => .request 0x8 { Operands.zero with maxWait := maxWait }
  | .send id command payload =>
      .request 0x9 { Operands.zero with id := id, command := command, bytes := payload }
  | .dataReady id payload => .dispatchFrame (buildFrame p id p.opcDataReady payload)
  | .outputStateReport id payload => .dispatchFrame (buildFrame p id p.opcOutputStateReport payload)
  | .inputStateReport id payload => .dispatchFrame (buildFrame p id p.opcInputStateReport payload)
  | .inputActivated id payload => .dispatchFrame (buildFrame p id p.opcInputActivated payload)
  | .setOutput m o d => .submitCommand m o d
  | .requestOutputs m => .requestModuleRefresh m .outputs
  | .requestInputs m => .requestModuleRefresh m .inputs

/-- The request a table word stands for: bits 3..0 of the word are the op code (R70); the operand
words are zeros. The op port is four bits wide, so the word's higher bits do not reach it. -/
def tableRequest (w : Nat) : HostAction := .request (BitVec.ofNat 4 w) Operands.zero

/-- The instruction the decoder reads from a table word. -/
def decodeTableWord (_nbits w : Nat) : Option Instr :=
  match decode Config.params (tableRequest w) with
  | .instr i => some i
  | .rejected _ => none

end Sys2Proof
end

