-- ==== Sys2Proof/Machine/State.lean ====
section
/-! DEFINITION. The state of IHC-FC (R10 to R33): the block's registers and buffers, the transport's
queues and the line, the host's tables, and, as plain data, what the environment still has to supply
(R32). Also its value after reset (R31, R240), and the reasons a step can stop. -/

namespace Sys2Proof.Machine

/-- R14: the four states of the receive sequencer. -/
inductive RxState where
  | idle
  | framing
  | dispatch
  | halted
  deriving DecidableEq, Repr

/-- R15: `DSTAT`. `never` is the spec's `NONE`: no DECODE has run inside RX_STEP since reset. -/
inductive DStat where
  | never
  | ran (status : DecodeStatus)
  deriving DecidableEq, Repr

/-- R17: `ERR`, the sticky fatal-error register. -/
inductive ErrReg where
  | noError
  | linkUnavailable
  | transportReadError
  | shutdown
  deriving DecidableEq, Repr

/-- R210 to R214: the five errors. -/
inductive ErrorKind where
  | linkUnavailable
  | linkWriteError
  | frameChecksumError
  | malformedFrame
  | transportReadError
  deriving DecidableEq, Repr

/-- R226: the two errors whose entry is fatal. -/
inductive FatalCause where
  | linkUnavailable
  | transportReadError
  deriving DecidableEq, Repr

/-- R24: the levels of the log. -/
inductive LogLevel where
  | warning
  | error
  deriving DecidableEq, Repr

/-- R24, D29: one record of the log. -/
structure LogRecord where
  level : LogLevel
  event : ErrorKind
  deriving DecidableEq, Repr

/-- R18, R71: the status registers, as a response reports them. -/
structure Status where
  rxState : RxState
  dstat : DStat
  cntMalformed : Nat
  err : ErrReg
  linkOpen : Bool
  linkCfg : LinkCfg
  tLastRx : Nat
  deriving DecidableEq, Repr

/-- R153: the first component of RX_STEP's result. -/
inductive RxStatus where
  | halted
  | idle
  | accumulating
  | decoded (status : DecodeStatus)
  deriving DecidableEq, Repr

/-- R70: the response column: what an operation answers. The two fatal errors and the write error are
answers too (R225, R226); LinkUnavailable records the address that was tried (R210). -/
inductive Result where
  | ok
  | bytes (bs : Bytes)
  | decoded (result : DecodeResult)
  | rxStep (status : RxStatus) (frame : Option Bytes)
  | linkUnavailable (address : Address)
  | linkWriteError
  | transportReadError
  deriving DecidableEq, Repr

/-- R71: a response: the result together with the status registers as they stand afterwards. -/
structure Response where
  result : Result
  status : Status
  deriving DecidableEq, Repr

/-- R177 to R181, R188: the host's events. -/
inductive Event where
  | dataReady
  | outputState (moduleIndex : Nat) (mask : Byte)
  | inputState (moduleIndex : Nat) (mask : InputMask)
  | inputActivated (moduleIndex inputIndex : Nat)
  deriving DecidableEq, Repr

/-- R190: `PollCursor`. `lastPollTimestamp = none`: no poll has been issued. -/
structure PollCursor where
  currentModuleIndex : Nat
  nextKindIsOutputPoll : Bool
  lastPollTimestamp : Option Nat
  deriving DecidableEq, Repr

/-- The whole machine. Plain data: no field is a function. -/
structure State where
  /-- R5, R243: the parameter record; fixed for a run, no step writes it. -/
  params : Params
  /-- R10: `RXBUF`. -/
  rxbuf : Bytes
  /-- R14: `RXSTATE`. -/
  rxState : RxState
  /-- R15: `DSTAT`. -/
  dstat : DStat
  /-- R16: `CNT_MALFORMED`. -/
  cntMalformed : Nat
  /-- R17: `ERR`. -/
  err : ErrReg
  /-- R19: `LINK_OPEN`. -/
  linkOpen : Bool
  /-- R20: `LINK_CFG`; read through `State.linkCfgReading` while the link is closed. -/
  linkCfg : LinkCfg
  /-- R21: `T_LAST_RX`. -/
  tLastRx : Nat
  /-- R24: `LOG`, oldest first. -/
  log : List LogRecord
  /-- R26: `RXFIFO`, oldest first. -/
  rxfifo : Bytes
  /-- R27: `TXFIFO`, oldest first. -/
  txfifo : Bytes
  /-- R28: `LINE_OUT`, oldest first. -/
  lineOut : Bytes
  /-- R28: `LINE_IN`: what the peer will still deliver, in order. -/
  lineIn : List Arrival
  /-- R29: `NOW`, in milliseconds. -/
  now : Nat
  /-- R30: `SHUTDOWN`. -/
  shutdown : Bool
  /-- R171: `outputs`, one mask for each output module. -/
  outputs : List Byte
  /-- R171: `inputs`, one mask for each input module. -/
  inputs : List InputMask
  /-- R174: `PENDING`, the command slot. -/
  pending : Option Command
  /-- R190: `PollCursor`. -/
  pollCursor : PollCursor
  /-- R188: the event stream, oldest first. -/
  events : List Event
  /-- R70, R71: the response of the latest operation; `none` when none has answered since reset. -/
  response : Option Response
  /-- R32, R51, R161: what the host does next, in order; a frame RX_STEP delivers is put in front. -/
  agenda : List HostAction
  /-- R29, R30: the environment's ticks that are scripted (R139), the next one first. -/
  ticks : List Tick
  /-- The model's own: how many ticks have been used; it indexes the free ones. -/
  ticksUsed : Nat
  /-- R32, R139: the device's draws that are scripted, the next one first. -/
  draws : List Draw
  /-- The model's own: how many draws have been made; it indexes the free ones. -/
  drawsUsed : Nat
  deriving DecidableEq, Repr

/-- Faults: none. Every error of the spec (R210 to R214) leaves the block in a state the spec gives, so
it is a next state here, and there is no addressed memory whose absent cells could be accessed. -/
inductive Fault where
  deriving DecidableEq, Repr

/-- Refusals (R7, R215): requests to which the spec gives no meaning, with the spec's own names; nothing
changes. All are safe: the model stops where the spec says nothing of what the hardware does. -/
inductive Refusal where
  /-- Raised by an arm of `exec` whose instruction has no meaning yet. Safe. -/
  | notModelled (mnemonic : String)
  /-- Raised by `step` for the op codes 0x0 and 0xA to 0xF (R75). Safe. -/
  | reservedOp
  /-- Raised by READ_AVAILABLE, WRITE_FRAME, FLUSH, RX_STEP and SEND on a closed link (R120, D14), and by
  DATA_READY when it has a frame to send. Safe. -/
  | linkNotOpen
  /-- Raised by OPEN on an open link (R120). Safe. -/
  | linkAlreadyOpen
  /-- Raised by every operation but CLOSE, ENCODE and DECODE once the block is halted (R120, R226), and by
  DATA_READY when it has a frame to send. Safe. -/
  | halted
  /-- Raised by ENCODE, WRITE_FRAME and SEND for more bytes than a bounded `TX_MAX_LEN` (R95, R127), and by
  DATA_READY when the frame it has to send is so long. Safe. -/
  | frameTooLong
  /-- Raised by RX_STEP for a chunk that does not fit a bounded `RXBUF_CAP` (R162). Safe. -/
  | rxOverflow
  /-- Raised by `step` when the parameters or OPEN's speed are not positive (R248, U22). Safe. -/
  | invalidConfiguration
  /-- Raised by `step` when the bytes to be dispatched are no frame of DECODE (R65, R176). Safe. -/
  | notAFrame
  deriving DecidableEq, Repr

/-- R31, R240: every piece of state at its reset value, for parameters `p`. `LINK_CFG` and `T_LAST_RX`,
to which the spec gives no value, are at the values of assumption log 1; the environment's part is
what a machine with nothing scripted has (assumption log 2 and 25). -/
def State.resetWith (p : Params) : State where
  params := p
  rxbuf := []
  rxState := .idle
  dstat := .never
  cntMalformed := 0
  err := .noError
  linkOpen := false
  linkCfg := { address := [], baudRate := 0 }
  tLastRx := 0
  log := []
  rxfifo := []
  txfifo := []
  lineOut := []
  lineIn := Config.freeLineIn
  now := 0
  shutdown := false
  outputs := List.replicate p.outCount 0
  inputs := List.replicate p.inCount 0
  pending := none
  pollCursor := { currentModuleIndex := 0, nextKindIsOutputPoll := true, lastPollTimestamp := none }
  events := []
  response := none
  agenda := []
  ticks := []
  ticksUsed := 0
  draws := []
  drawsUsed := 0

/-- R31, R240: the machine right after reset. -/
def State.reset : State := State.resetWith Config.params

end Sys2Proof.Machine
end

