-- ==== Sys2Proof/Machine/Flags.lean ====
section
/-! DEFINITION. The status registers and flags: what each of them becomes (R14 to R17, R150, R152, R215),
and how the status registers read in a response (R18, R20, R71). -/

namespace Sys2Proof.Machine

/-- R215: the numeric code of an error. -/
def ErrorKind.code : ErrorKind → Nat
  | .linkUnavailable => 1
  | .linkWriteError => 2
  | .frameChecksumError => 3
  | .malformedFrame => 4
  | .transportReadError => 5

/-- R210, R214: the error a fatal entry names. -/
def FatalCause.kind : FatalCause → ErrorKind
  | .linkUnavailable => .linkUnavailable
  | .transportReadError => .transportReadError

/-- R226: the value of `ERR` for a fatal entry. -/
def FatalCause.register : FatalCause → ErrReg
  | .linkUnavailable => .linkUnavailable
  | .transportReadError => .transportReadError

/-- R17, R226: `ERR` keeps the first cause. -/
def latchErr (old new : ErrReg) : ErrReg := if old = .noError then new else old

/-- R150, R153: the sequencer's state between operations, from what is left in `RXBUF`. -/
def restingState (rxbuf : Bytes) : RxState := if rxbuf = [] then .idle else .framing

/-- R152: the silence condition at time `t`, `t - T_LAST_RX >= SILENCE_MS`. -/
def quiet (s : State) (t : Nat) : Bool :=
  decide (s.rxbuf ≠ []) && decide (s.tLastRx + s.params.silenceMs ≤ t)

/-- R162: whether a chunk does not fit a bounded accumulation buffer. -/
def rxOverflows (s : State) (chunk : Bytes) : Bool :=
  match s.params.rxbufCap with
  | none => false
  | some cap => decide (chunk ≠ []) && decide (cap < s.rxbuf.length + chunk.length)

/-- R183: whether the poll interval has elapsed since the last poll. -/
def pollDue (s : State) : Bool :=
  match s.pollCursor.lastPollTimestamp with
  | none => true
  | some last => decide (last + s.params.pollIntervalMs ≤ s.now)

/-- R20: `LINK_CFG` as it reads: the latched pair while the link is open, any value while it is closed. -/
def State.linkCfgReading (s : State) : LinkCfg :=
  if s.linkOpen then s.linkCfg else Config.freeLinkCfg s.ticksUsed

/-- R18: the status registers as they stand. -/
def State.status (s : State) : Status where
  rxState := s.rxState
  dstat := s.dstat
  cntMalformed := s.cntMalformed
  err := s.err
  linkOpen := s.linkOpen
  linkCfg := s.linkCfgReading
  tLastRx := s.tLastRx

end Sys2Proof.Machine
end

