-- ==== Sys2Proof/Machine/Operands.lean ====
section
/-! DEFINITION. The operand forms of the frame commands: the fields of a report's payload (R67 to R69, D24)
and the conditions on them (R72, R176). Payload bytes beyond those named are ignored. -/

namespace Sys2Proof.Machine

/-- R67 to R69: `p[0]`, the module index. -/
def reportModule (payload : Bytes) : Nat := (payload.getD 0 0).toNat

/-- R68: `p[1]`, the output mask. -/
def reportOutputMask (payload : Bytes) : Byte := payload.getD 1 0

/-- R67: `p[1] + 256 * p[2]`, the input mask, low byte first. -/
def reportInputMask (payload : Bytes) : InputMask :=
  BitVec.ofNat 16 ((payload.getD 1 0).toNat + 256 * (payload.getD 2 0).toNat)

/-- R69: `p[1]`, the input's index. -/
def reportInputIndex (payload : Bytes) : Nat := (payload.getD 1 0).toNat

/-- R176, R178: an output report is acted on: two payload bytes at least, and a configured module. -/
def outputReportAccepted (p : Params) (payload : Bytes) : Bool :=
  decide (2 ≤ payload.length) && decide (reportModule payload < p.outCount)

/-- R176, R179: an input report is acted on: three payload bytes at least, and a configured module. -/
def inputReportAccepted (p : Params) (payload : Bytes) : Bool :=
  decide (3 ≤ payload.length) && decide (reportModule payload < p.inCount)

/-- R181: an activation is acted on: two payload bytes at least, and no condition on the module. -/
def activationAccepted (payload : Bytes) : Bool := decide (2 ≤ payload.length)

end Sys2Proof.Machine
end

