-- ==== Sys2Proof/Machine/Ops.lean ====
section
/-! DEFINITION. The named operations the meanings share: the line and its agent (R45, R46, R136), the clock and
the draws, responses and the log, the fatal entry and the way out of it (R226, R240), the one transmit
operation (R127), the receive sequencer's pieces (R153), and the host's tables (R172 to R175, R191). -/

namespace Sys2Proof.Machine

/-- The three outcomes of an instruction. -/
abbrev Answer := Host.Outcome State Fault Refusal

/-! ### The environment -/

/-- R121: the draw the next transport operation meets: the scripted one, else any value. -/
def State.currentDraw (s : State) : Draw := s.draws.headD (Config.freeDraw s.drawsUsed)

/-- One draw has been made. -/
def State.popDraw (s : State) : State :=
  { s with draws := s.draws.tail, drawsUsed := s.drawsUsed + 1 }

/-- R29, R30: the tick the next step meets: the scripted one, else any value. -/
def State.currentTick (s : State) : Tick := s.ticks.headD (Config.freeTick s.ticksUsed)

/-- R136: one step of the line agent: ARRIVE while the link is open, DROP while it is closed. -/
def lineAgentStep (s : State) : State :=
  match s.lineIn with
  | [] => s
  | a :: rest =>
    { s with lineIn := rest, rxfifo := if s.linkOpen then s.rxfifo ++ [a.byte] else s.rxfifo }

/-- R28: whether a byte of `LINE_IN` is there by time `t`, in the present turn. -/
def State.there (s : State) (t : Nat) (a : Arrival) : Bool :=
  decide (a.time ≤ t) && decide (a.turn ≤ s.ticksUsed)

/-- R28: the bytes at the front of `LINE_IN` that are there now. -/
def State.due (s : State) : List Arrival := s.lineIn.takeWhile (s.there s.now)

/-- R136: the line agent's steps for every byte that is there by now, in order. -/
def deliver (s : State) : State :=
  { s with
    lineIn := s.lineIn.dropWhile (s.there s.now)
    rxfifo := if s.linkOpen then s.rxfifo ++ s.due.map Arrival.byte else s.rxfifo }

/-- R29, R30, R195: what happens before a step: the clock moves on and never back, the shutdown signal is
sticky, a command the producer enqueues replaces an unsent one (R174), and the line agent delivers what
is there. -/
def beginStep (s : State) : State :=
  deliver
    { s with
      now := max s.now s.currentTick.reading
      shutdown := s.shutdown || s.currentTick.shutdown
      pending := s.currentTick.submitted.or s.pending
      ticks := s.ticks.tail
      ticksUsed := s.ticksUsed + 1 }

/-- R51: the host's agenda once its first entry is taken. -/
def setAgenda (rest : List HostAction) (s : State) : State := { s with agenda := rest }

/-! ### Responses and the log -/

/-- R71: the response of an operation, with the status registers as they then stand. -/
def respond (r : Result) (s : State) : State :=
  { s with response := some { result := r, status := s.status } }

/-- R24: append a record to the log. -/
def appendLog (level : LogLevel) (event : ErrorKind) (s : State) : State :=
  { s with log := s.log ++ [{ level := level, event := event }] }

/-- R16: count a malformed frame. -/
def countMalformed (s : State) : State := { s with cntMalformed := s.cntMalformed + 1 }

/-! ### Closing, the fatal entry and the restart -/

/-- R132: CLOSE's effect on the state. -/
def closeLink (s : State) : State := { s with rxfifo := [], txfifo := [], linkOpen := false }

/-- R226: the fatal entry. The error is logged, `ERR` keeps the first cause, the link is closed, and the
block is halted; `RXBUF`, `DSTAT` and `CNT_MALFORMED` keep their values. -/
def fatalEntry (cause : FatalCause) (s : State) : State :=
  { closeLink { appendLog .error cause.kind s with err := latchErr s.err cause.register } with
    rxState := .halted }

/-- R221: what RX_STEP does when it sees the shutdown signal; nothing is logged. -/
def enterShutdown (s : State) : State :=
  { closeLink s with err := .shutdown, rxState := .halted }

/-- R51: whether what the host presents is a received frame, waiting for its dispatch. -/
def isReceivedFrame : HostAction → Bool
  | .request _ _ => false
  | .dispatchFrame _ => true
  | .submitCommand _ _ _ => false
  | .requestModuleRefresh _ _ => false

/-- R240, R242, R243: reset, the only way out of `Halted`. The parameters and what belongs to the
environment (the clock, the line's input, the draws, what the host will ask next) are no state of the
block and stay; a received frame that was not dispatched yet is lost (assumption log 18). -/
def restart (s : State) : State :=
  { State.resetWith s.params with
    lineIn := s.lineIn
    now := s.now
    agenda := s.agenda.filter (fun a => !isReceivedFrame a)
    ticks := s.ticks
    ticksUsed := s.ticksUsed
    draws := s.draws
    drawsUsed := s.drawsUsed }

/-- R120: the precondition of the operations that need an open link; a halted block refuses first
(assumption log 13). -/
def whenOpen (s : State) (k : Answer) : Answer :=
  if s.rxState = .halted then .refused .halted
  else if s.linkOpen then k
  else .refused .linkNotOpen

/-! ### The transmit side -/

/-- R46: `LineWrite`. -/
def lineWrite (bytes : Bytes) (s : State) : State := { s with txfifo := s.txfifo ++ bytes }

/-- R46: `LineFlush`. -/
def lineFlush (s : State) : State := { s with lineOut := s.lineOut ++ s.txfifo, txfifo := [] }

/-- R127, R128, R211: a failed write. A part of `bytes`, from nothing to all of it, is on the wire; the
rest is dropped, the error logged and reported. -/
def writeFailure (bytes : Bytes) (wireCount : Nat) (s : State) : State :=
  respond .linkWriteError (appendLog .error .linkWriteError
    { s with lineOut := s.lineOut ++ bytes.take wireCount, txfifo := [] })

/-- R127: the transmission of `bytes`, its draw included; shared by WRITE_FRAME, SEND and the handshake. -/
def transmit (bytes : Bytes) (s : State) : Answer :=
  whenOpen s <|
    if fitsTransport s.params bytes.length then
      .next (if s.currentDraw.fail then writeFailure bytes s.currentDraw.wireCount s.popDraw
        else respond .ok (lineFlush (lineWrite bytes s.popDraw)))
    else .refused .frameTooLong

/-- R160: encode, then transmit; shared by SEND and the handshake. -/
def sendFrame (id command : Byte) (payload : Bytes) (s : State) : Answer :=
  match encodeFrame s.params id command payload with
  | none => .refused .frameTooLong
  | some f => transmit f s

/-! ### The receive side -/

/-- R124: the wait of a read: until `RXFIFO` holds a byte or `maxWait` has passed; the line agent may
act meanwhile. -/
def waitForBytes (maxWait : Nat) (s : State) : State :=
  if s.rxfifo = [] then
    match s.lineIn with
    | [] => { s with now := s.now + maxWait }
    | a :: _ =>
      if s.there (s.now + maxWait) a then deliver { s with now := max s.now a.time }
      else { s with now := s.now + maxWait }
  else s

/-- R45: `LineRead`'s effect: `RXFIFO` is left empty. -/
def clearRxfifo (s : State) : State := { s with rxfifo := [] }

/-- R45, R124: the bytes a read that does not fail returns. -/
def readChunk (maxWait : Nat) (s : State) : Bytes := (waitForBytes maxWait s).rxfifo

/-- R45, R124: the state after a read that does not fail. -/
def readDone (maxWait : Nat) (s : State) : State := clearRxfifo (waitForBytes maxWait s)

/-- R153: a chunk is appended to `RXBUF`, and the quiet interval begins anew. -/
def appendChunk (chunk : Bytes) (s : State) : State :=
  if chunk = [] then s
  else { s with rxbuf := s.rxbuf ++ chunk, tLastRx := s.now, rxState := .framing }

/-- R153, R156: what a decode status does before the sequencer settles: a frame goes to the host (R161),
a checksum error is logged (R212), a short candidate is counted (R213). -/
def actOnStatus (r : DecodeResult) (s : State) : State :=
  match r.status, r.frame with
  | .frameOk, some f =>
      { s with rxState := .dispatch, agenda := .dispatchFrame f :: s.agenda }
  | .frameOk, none => { s with rxState := .dispatch }
  | .checksumError, _ => appendLog .warning .frameChecksumError s
  | .malformedShort, _ => countMalformed s
  | .noStart, _ => s
  | .incomplete, _ => s

/-- R57, R153: `DSTAT` is written and the consumed bytes leave the front of `RXBUF`. -/
def consume (r : DecodeResult) (s : State) : State :=
  { s with dstat := .ran r.status, rxbuf := s.rxbuf.drop r.consumed }

/-- R153: the last assignment of a step that decodes. -/
def settle (s : State) : State := { s with rxState := restingState s.rxbuf }

/-- R153: one DECODE of `RXBUF` inside RX_STEP, with everything that follows from its status. -/
def decodeInStep (s : State) : State :=
  respond (.rxStep (.decoded (decodeBuffer s.params s.rxbuf).status) (decodeBuffer s.params s.rxbuf).frame)
    (settle (actOnStatus (decodeBuffer s.params s.rxbuf) (consume (decodeBuffer s.params s.rxbuf) s)))

/-- R153: RX_STEP after its read and append. -/
def finishRxStep (s : State) : State :=
  if s.rxbuf = [] then respond (.rxStep .idle none) { s with rxState := .idle }
  else if quiet s s.now then decodeInStep s
  else respond (.rxStep .accumulating none) s

/-! ### The host's tables -/

/-- R172: `setOutputMask`. -/
def setOutputMask (m : Nat) (mask : Byte) (s : State) : State :=
  { s with outputs := if m < s.params.outCount then s.outputs.set m mask else s.outputs }

/-- R172: `setInputMask`. -/
def setInputMask (m : Nat) (mask : InputMask) (s : State) : State :=
  { s with inputs := if m < s.params.inCount then s.inputs.set m mask else s.inputs }

/-- R172: `isOutputOn`. -/
def isOutputOn (s : State) (m bit : Nat) : Bool :=
  decide (m < s.params.outCount) && decide (bit < 8) && (s.outputs.getD m 0).getLsbD bit

/-- R172: `isInputOn`. -/
def isInputOn (s : State) (m bit : Nat) : Bool :=
  decide (m < s.params.inCount) && decide (bit < 16) && (s.inputs.getD m 0).getLsbD bit

/-- R188: emit an event. -/
def emit (e : Event) (s : State) : State := { s with events := s.events ++ [e] }

/-- R188: the events the BridgeAdapter receives: all but the internal `DataReady`. -/
def bridgeEvents (s : State) : List Event := s.events.filter (fun e => decide (e ≠ .dataReady))

/-- R174: `enqueue`; an unsent command is replaced. -/
def enqueue (c : Command) (s : State) : State := { s with pending := some c }

/-- R175: `drain`'s effect on the slot. -/
def drainSlot (s : State) : State := { s with pending := none }

/-- R185: the command submitCommand makes. -/
def setOutputCommand (p : Params) (m o d : Nat) : Command :=
  { opcode := p.opcSetOutput, payload := Config.setOutputPayload m o d }

/-- R186: the query of a module's outputs. -/
def requestOutputsCommand (p : Params) (m : Nat) : Command :=
  { opcode := p.opcRequestOutputs, payload := Config.requestOutputsPayload m }

/-- R186: the query of a module's inputs. -/
def requestInputsCommand (p : Params) (m : Nat) : Command :=
  { opcode := p.opcRequestInputs, payload := Config.requestInputsPayload m }

/-- R191: the query `NextPoll` picks. -/
def nextPollCommand (s : State) : Command :=
  if s.pollCursor.nextKindIsOutputPoll then
    requestOutputsCommand s.params s.pollCursor.currentModuleIndex
  else requestInputsCommand s.params s.pollCursor.currentModuleIndex

/-- R191: the cursor after `NextPoll`: the module advances when a pair of queries is complete. -/
def advancePoll (s : State) : State :=
  { s with
    pollCursor :=
      { currentModuleIndex :=
          if s.pollCursor.nextKindIsOutputPoll then s.pollCursor.currentModuleIndex
          else (s.pollCursor.currentModuleIndex + 1) % max s.params.outCount s.params.inCount
        nextKindIsOutputPoll := !s.pollCursor.nextKindIsOutputPoll
        lastPollTimestamp := some s.now } }

/-- R183: what a data-ready token does after its event: a pending command is sent, else a due poll, else
nothing. -/
def handshake (s : State) : Answer :=
  match s.pending with
  | some c => sendFrame s.params.controllerId c.opcode c.payload (drainSlot s)
  | none =>
    if pollDue s then
      sendFrame s.params.controllerId (nextPollCommand s).opcode (nextPollCommand s).payload (advancePoll s)
    else .next s

end Sys2Proof.Machine
end

