-- ==== Sys2Proof/Machine/Codec.lean ====
section
/-! DEFINITION. The codec's operations: ENCODE (R95) and DECODE (R100). They read no state but the
parameters and work whatever the link and the sequencer are (R97, R226, R249). -/

namespace Sys2Proof.Machine

/-- ENCODE id, command, payload (R95, R97). -/
def execEncode (id command : Byte) (payload : Bytes) (s : State) : Answer :=
  match encodeFrame s.params id command payload with
  | none => .refused .frameTooLong
  | some f => .next (respond (.bytes f) s)

/-- DECODE buffer (R100, R103). Outside RX_STEP it writes no status register. -/
def execDecode (buffer : Bytes) (s : State) : Answer :=
  .next (respond (.decoded (decodeBuffer s.params buffer)) s)

end Sys2Proof.Machine
end

