-- ==== Sys2Proof/Machine/Engine.lean ====
section
/-! DEFINITION. The frame commands as the host around the block acts on them: the dispatch of a received
frame (R176 to R182), the data-ready handshake (R183), and the commands the host queues for sending
(R185 to R187). -/

namespace Sys2Proof.Machine

/-- DATA_READY (R177, R183): a frame with another id byte is ignored. -/
def execDataReady (id : Byte) (_payload : Bytes) (s : State) : Answer :=
  if id = s.params.hostPeerId then handshake (emit .dataReady s) else .next s

/-- OUTPUT_STATE_REPORT (R178, R180). -/
def execOutputStateReport (_id : Byte) (payload : Bytes) (s : State) : Answer :=
  .next (if outputReportAccepted s.params payload then
      emit (.outputState (reportModule payload) (reportOutputMask payload))
        (setOutputMask (reportModule payload) (reportOutputMask payload) s)
    else countMalformed s)

/-- INPUT_STATE_REPORT (R179, R180). -/
def execInputStateReport (_id : Byte) (payload : Bytes) (s : State) : Answer :=
  .next (if inputReportAccepted s.params payload then
      emit (.inputState (reportModule payload) (reportInputMask payload))
        (setInputMask (reportModule payload) (reportInputMask payload) s)
    else countMalformed s)

/-- INPUT_ACTIVATED (R181): an event, and no state of a module. -/
def execInputActivated (_id : Byte) (payload : Bytes) (s : State) : Answer :=
  .next (if activationAccepted payload then
      emit (.inputActivated (reportModule payload) (reportInputIndex payload)) s
    else countMalformed s)

/-- SET_OUTPUT (R185): the command waits for the next data-ready token. -/
def execSetOutput (m o d : Nat) (s : State) : Answer :=
  .next (enqueue (setOutputCommand s.params m o d) s)

/-- REQUEST_OUTPUTS (R186, R187). -/
def execRequestOutputs (m : Nat) (s : State) : Answer :=
  .next (enqueue (requestOutputsCommand s.params m) s)

/-- REQUEST_INPUTS (R186, R187). -/
def execRequestInputs (m : Nat) (s : State) : Answer :=
  .next (enqueue (requestInputsCommand s.params m) s)

end Sys2Proof.Machine
end

