-- ==== Sys2Proof/Machine/Sequencer.lean ====
section
/-! DEFINITION. The receive sequencer's step RX_STEP (R153) and the composition SEND (R160). -/

namespace Sys2Proof.Machine

/-- RX_STEP after a read that did not fail (R153, R162). -/
def rxAfterRead (maxWait : Nat) (s : State) : Answer :=
  if rxOverflows s (readChunk maxWait s) then .refused .rxOverflow
  else .next (finishRxStep (appendChunk (readChunk maxWait s) (readDone maxWait s)))

/-- RX_STEP maxWait (R153), its tests in the order of R223. -/
def execRxStep (maxWait : Nat) (s : State) : Answer :=
  if s.rxState = .halted then .refused .halted
  else if s.shutdown then .next (respond (.rxStep .halted none) (enterShutdown s))
  else
    whenOpen s <|
      if s.currentDraw.fail then
        .next (respond .transportReadError (fatalEntry .transportReadError s.popDraw))
      else rxAfterRead maxWait s.popDraw

/-- SEND id, command, payload (R160). -/
def execSend (id command : Byte) (payload : Bytes) (s : State) : Answer :=
  sendFrame id command payload s

end Sys2Proof.Machine
end

