-- ==== Sys2Proof/Machine/Transport.lean ====
section
/-! DEFINITION. The transport's operations: OPEN (R122), CLOSE (R132), READ_AVAILABLE (R124), WRITE_FRAME
(R127) and FLUSH (R130). -/

namespace Sys2Proof.Machine

/-- R122: OPEN's effect when the device can be opened. -/
def acquireLink (address : Address) (baudRate : Nat) (s : State) : State :=
  { s with
    linkCfg := { address := address, baudRate := baudRate }
    rxfifo := []
    txfifo := []
    linkOpen := true }

/-- OPEN address, baudRate (R120, R122, R210). -/
def execOpen (address : Address) (baudRate : Nat) (s : State) : Answer :=
  if s.rxState = .halted then .refused .halted
  else if s.linkOpen then .refused .linkAlreadyOpen
  else
    .next (if s.currentDraw.fail then
        respond (.linkUnavailable address) (fatalEntry .linkUnavailable s.popDraw)
      else respond .ok (acquireLink address baudRate s.popDraw))

/-- CLOSE (R132): no precondition, no error. -/
def execClose (s : State) : Answer := .next (respond .ok (closeLink s))

/-- READ_AVAILABLE maxWait (R124, R126). -/
def execReadAvailable (maxWait : Nat) (s : State) : Answer :=
  whenOpen s <|
    .next (if s.currentDraw.fail then
        respond .transportReadError (fatalEntry .transportReadError s.popDraw)
      else respond (.bytes (readChunk maxWait s.popDraw)) (readDone maxWait s.popDraw))

/-- WRITE_FRAME bytes (R127, R128). -/
def execWriteFrame (bytes : Bytes) (s : State) : Answer := transmit bytes s

/-- FLUSH (R130): with nothing buffered it cannot fail. -/
def execFlush (s : State) : Answer :=
  whenOpen s <|
    .next (if s.currentDraw.fail && decide (s.txfifo ≠ []) then
        writeFailure s.txfifo s.currentDraw.wireCount s.popDraw
      else respond .ok (lineFlush s.popDraw))

end Sys2Proof.Machine
end

