-- ==== Sys2Proof/Machine/Dispatch.lean ====
section
/-! DEFINITION. The meaning of every instruction: one arm for each row of the opcode table. -/

namespace Sys2Proof.Machine

/-- One instruction's effect. -/
def exec (i : Instr) (s : State) : Host.Outcome State Fault Refusal :=
  match i with
  | .openLink address baudRate => Sys2Proof.Machine.execOpen address baudRate s
  | .close => Sys2Proof.Machine.execClose s
  | .readAvailable maxWait => Sys2Proof.Machine.execReadAvailable maxWait s
  | .writeFrame bytes => Sys2Proof.Machine.execWriteFrame bytes s
  | .flush => Sys2Proof.Machine.execFlush s
  | .encode id command payload => Sys2Proof.Machine.execEncode id command payload s
  | .decode buffer => Sys2Proof.Machine.execDecode buffer s
  | .rxStep maxWait => Sys2Proof.Machine.execRxStep maxWait s
  | .send id command payload => Sys2Proof.Machine.execSend id command payload s
  | .dataReady id payload => Sys2Proof.Machine.execDataReady id payload s
  | .outputStateReport id payload => Sys2Proof.Machine.execOutputStateReport id payload s
  | .inputStateReport id payload => Sys2Proof.Machine.execInputStateReport id payload s
  | .inputActivated id payload => Sys2Proof.Machine.execInputActivated id payload s
  | .setOutput m o d => Sys2Proof.Machine.execSetOutput m o d s
  | .requestOutputs m => Sys2Proof.Machine.execRequestOutputs m s
  | .requestInputs m => Sys2Proof.Machine.execRequestInputs m s

end Sys2Proof.Machine
end

