-- ==== Sys2Proof/Machine/Turn.lean ====
section
/-! DEFINITION. What one step is made of: the environment's part (clock, shutdown, producer, restart, line
agent), then the next thing the host does, fetched from its agenda, decoded and executed (R51, R161). -/

namespace Sys2Proof.Machine

/-- What a step does with what the host presents, after the environment's part. A frame whose command
byte the dispatch does not know is ignored (R182). -/
def issue (a : HostAction) (s : State) : Answer :=
  match decode s.params a with
  | .instr i => if i.wf s.params then exec i s else .refused .invalidConfiguration
  | .rejected .ignoredCommand => .next s
  | .rejected .reservedOp => .refused .reservedOp
  | .rejected .notAFrame => .refused .notAFrame

/-- The host's part of a step: it takes the first entry of its agenda; with an empty agenda it does
nothing. A host whose configuration is invalid issues nothing (R248, U22). -/
def hostTurn (s : State) : Answer :=
  match s.agenda with
  | [] => .next s
  | a :: rest =>
    if s.params.validated then issue a (setAgenda rest s) else .refused .invalidConfiguration

/-- First the environment's tick; a restart is the whole step (R240); else the host's turn. -/
def turn (s : State) : Answer :=
  if s.currentTick.restart then .next (restart (beginStep s)) else hostTurn (beginStep s)

/-- A tick in which no time passes and nothing is signalled. -/
def quietTick (s : State) : Tick :=
  { reading := s.now, shutdown := false, submitted := none, restart := false }

/-- `a` as the next thing the host does, with nothing happening before it. -/
def placeAction (a : HostAction) (s : State) : State :=
  { s with agenda := a :: s.agenda, ticks := quietTick s :: s.ticks }

end Sys2Proof.Machine
end

