-- ==== Sys2Proof/Machine/Step.lean ====
section
/-! DEFINITION. One step of the machine, and the placing of a table word where the next step fetches. -/

namespace Sys2Proof.Machine

/-- One step: the environment's tick, then the host's turn. -/
def step (s : State) : Host.Outcome State Fault Refusal := turn s

/-- `s` with the request of a table word put in front of the host's agenda, and with a tick in front in
which no time passes and nothing is signalled, so that the very next step executes that request. -/
def State.withFetchWord (s : State) (_nbits w : Nat) : State := placeAction (tableRequest w) s

end Sys2Proof.Machine
end

