-- ==== Sys2Proof/Machine/Runs.lean ====
section
/-! DEFINITION. Repeated decoding of a stream fed in pieces (`RUN` of R112, the loop of R110), and a series of
scheduling opportunities of the poll scheduler (R192). Claims are stated in terms of these. -/

namespace Sys2Proof.Machine

/-- R112: a candidate outcome of DECODE. -/
inductive Candidate where
  | frame (f : Bytes)
  | checksumError
  | malformedShort
  deriving DecidableEq, Repr

/-- R112: the candidate a DECODE reports, if it cut one. -/
def candidateOf (r : DecodeResult) : List Candidate :=
  match r.status, r.frame with
  | .frameOk, some f => [.frame f]
  | .frameOk, none => []
  | .checksumError, _ => [.checksumError]
  | .malformedShort, _ => [.malformedShort]
  | .noStart, _ => []
  | .incomplete, _ => []

/-- R110: what one DECODE leaves of a buffer. -/
def dropConsumed (p : Params) (b : Bytes) : Bytes := b.drop (decodeBuffer p b).consumed

/-- R112: `n` times DECODE and removal of the consumed bytes: the candidates reported and the bytes left. -/
def decodeTimes (p : Params) : Nat → Bytes → List Candidate × Bytes
  | 0, b => ([], b)
  | n + 1, b =>
    (candidateOf (decodeBuffer p b) ++ (decodeTimes p n (dropConsumed p b)).1,
      (decodeTimes p n (dropConsumed p b)).2)

/-- R110, R112: DECODE until nothing is consumed. A DECODE that consumes nothing changes nothing, and each
other one shortens the buffer, so one more than its length is enough. -/
def decodeAll (p : Params) (b : Bytes) : List Candidate × Bytes := decodeTimes p (b.length + 1) b

/-- R112: a stream fed in pieces, each followed by a number of DECODEs, and run to the end after the last. -/
def runPieces (p : Params) : List (Bytes × Nat) → Bytes → List Candidate × Bytes
  | [], b => decodeAll p b
  | (piece, n) :: rest, b =>
    ((decodeTimes p n (b ++ piece)).1 ++ (runPieces p rest (decodeTimes p n (b ++ piece)).2).1,
      (runPieces p rest (decodeTimes p n (b ++ piece)).2).2)

/-- R192: the queries issued at scheduling opportunities at the given times, in order (R191). -/
def pollQueries : List Nat → State → List Command
  | [], _ => []
  | t :: ts, s => nextPollCommand s :: pollQueries ts (advancePoll { s with now := t })

end Sys2Proof.Machine
end

