-- ==== Sys2Proof/Safety.lean ====
section
/-! DEFINITION. What a good state is between operations (R10, R14, R15, R17, R19, R21, R26, R27, R150, R171,
R190), and the frame conditions claims are stated in. -/

namespace Sys2Proof.Machine

/-- R10: `RXBUF` is no longer than a bounded `RXBUF_CAP`. -/
abbrev State.RxbufFits (s : State) : Prop := ∀ cap, s.params.rxbufCap = some cap → s.rxbuf.length ≤ cap

/-- R14, R150: the sequencer between operations. `Dispatch` is never seen; while not halted it is `Idle`
exactly when `RXBUF` is empty and `Framing` otherwise. -/
abbrev State.SequencerRests (s : State) : Prop :=
  s.rxState = .halted ∨ s.rxState = restingState s.rxbuf

/-- R17, R226: the block is halted exactly when `ERR` holds a cause, and then the link is closed. -/
abbrev State.HaltedHasCause (s : State) : Prop :=
  (s.rxState = .halted ↔ s.err ≠ .noError) ∧ (s.rxState = .halted → s.linkOpen = false)

/-- R26, R27: a closed link holds no received byte, and no byte waits to be flushed between operations. -/
abbrev State.QueuesRest (s : State) : Prop := (s.linkOpen = false → s.rxfifo = []) ∧ s.txfifo = []

/-- R171: the module tables have the configured sizes. -/
abbrev State.TablesSized (s : State) : Prop :=
  s.outputs.length = s.params.outCount ∧ s.inputs.length = s.params.inCount

/-- R191: the poll cursor is below the larger module count. -/
abbrev State.CursorInRange (s : State) : Prop :=
  s.pollCursor.currentModuleIndex < max s.params.outCount s.params.inCount

/-- R21, R29, R234: the recorded times are not in the future. -/
abbrev State.TimesPast (s : State) : Prop :=
  (s.rxbuf ≠ [] → s.tLastRx ≤ s.now) ∧ ∀ t, s.pollCursor.lastPollTimestamp = some t → t ≤ s.now

/-- The invariant of the machine between steps. -/
structure State.Inv (s : State) : Prop where
  rxbufFits : s.RxbufFits
  sequencerRests : s.SequencerRests
  haltedHasCause : s.HaltedHasCause
  queuesRest : s.QueuesRest
  tablesSized : s.TablesSized
  cursorInRange : s.CursorInRange
  timesPast : s.TimesPast

end Sys2Proof.Machine
end

