-- ==== Sys2Proof/Certificates/Slice0/Obligations.lean ====
section
/-! DEFINITION. The statements about IHC-FC for the provers, from the spec's numbered rules: the codec's laws,
the decoding of instructions, each operation's effect with its frame, the host's dispatch, and the rules of
the whole machine. -/

open Sys2Proof Sys2Proof.Machine

/-! ### The checksum -/

/-- R90: the checksum is the sum of all bytes modulo 256, and a wrapping 8-bit accumulator computes it. -/
def Obligations.ChecksumIsWrappingSum : Prop :=
  ∀ bs : Bytes, (checksum bs).toNat = (bs.map BitVec.toNat).sum % 256 ∧
    checksum bs = bs.foldl (· + ·) 0

/-- R91 (a) to (f): range, concatenation, order-blindness, offset-blindness in both orders, zero bytes, and
the overflow of bytes 0xFF. -/
def Obligations.ChecksumLaws : Prop :=
  (∀ bs : Bytes, (checksum bs).toNat ≤ 255) ∧
  (∀ a b : Bytes, (checksum (a ++ b)).toNat = ((checksum a).toNat + (checksum b).toNat) % 256) ∧
  (∀ a b : Bytes, a.Perm b → checksum a = checksum b) ∧
  (∀ (a b c : Bytes) (x y x' y' : Byte) (d : Nat), x'.toNat = x.toNat + d → y.toNat = y'.toNat + d →
    checksum (a ++ x' :: b ++ y' :: c) = checksum (a ++ x :: b ++ y :: c) ∧
    checksum (a ++ y' :: b ++ x' :: c) = checksum (a ++ y :: b ++ x :: c)) ∧
  (∀ bs : Bytes, checksum (bs ++ [0x00]) = checksum bs) ∧
  (∀ n : Nat, (checksum (List.replicate n 0xFF)).toNat = (255 * n) % 256 ∧
    (checksum (List.replicate n 0xFF)).toNat = (256 - n % 256) % 256) ∧
  checksum (List.replicate 4 0xFF) = 0xFC

/-- R92: inverting bit `k` of one byte moves the checksum by `2^k`, so it always changes it. -/
def Obligations.SingleBitChangesChecksum : Prop :=
  ∀ (a c : Bytes) (b : Byte) (k : Nat), k < 8 →
    (checksum (a ++ (b ^^^ BitVec.twoPow 8 k) :: c) = checksum (a ++ b :: c) + BitVec.twoPow 8 k ∨
      checksum (a ++ (b ^^^ BitVec.twoPow 8 k) :: c) = checksum (a ++ b :: c) - BitVec.twoPow 8 k) ∧
    checksum (a ++ (b ^^^ BitVec.twoPow 8 k) :: c) ≠ checksum (a ++ b :: c)

/-! ### ENCODE and DECODE as functions -/

/-- R96: the shape of an encoded frame, offset by offset, the accessors of R65 on it, and injectivity. -/
def Obligations.EncodedFrameShape : Prop :=
  ∀ (p : Params) (id command : Byte) (payload f : Bytes), encodeFrame p id command payload = some f →
    f.length = payload.length + 5 ∧ f[0]? = some p.startMarker ∧ f[1]? = some id ∧
    f[2]? = some command ∧ slice f 3 (3 + payload.length) = payload ∧
    f[payload.length + 3]? = some p.endMarker ∧
    f[payload.length + 4]? = some (checksum (slice f 0 (payload.length + 4))) ∧
    frameId f = id ∧ frameCommand f = command ∧ framePayload f = payload ∧
    ∀ (id' command' : Byte) (payload' : Bytes), encodeFrame p id' command' payload' = some f →
      id' = id ∧ command' = command ∧ payload' = payload

/-- R101: the outcome of DECODE for each shape of a buffer. Every buffer has one of the four shapes, since
the bytes after the first START either hold an END or not. -/
def Obligations.DecodeOutcomeByShape : Prop :=
  ∀ (p : Params) (noise mid rest : Bytes) (ck : Byte),
    (p.startMarker ∉ noise → decodeBuffer p noise = { status := .noStart, frame := none, consumed := noise.length }) ∧
    (p.startMarker ∉ noise → p.endMarker ∉ mid →
      decodeBuffer p (noise ++ p.startMarker :: mid) =
        { status := .incomplete, frame := none, consumed := noise.length } ∧
      decodeBuffer p (noise ++ p.startMarker :: (mid ++ [p.endMarker])) =
        { status := .incomplete, frame := none, consumed := noise.length } ∧
      decodeBuffer p (noise ++ p.startMarker :: (mid ++ p.endMarker :: ck :: rest)) =
        (if checksum (p.startMarker :: (mid ++ [p.endMarker])) ≠ ck then
          { status := .checksumError, frame := none, consumed := noise.length + mid.length + 3 }
        else if mid.length + 3 < 5 then
          { status := .malformedShort, frame := none, consumed := noise.length + mid.length + 3 }
        else
          { status := .frameOk, frame := some (p.startMarker :: (mid ++ [p.endMarker, ck])),
            consumed := noise.length + mid.length + 3 }))

/-- R104: the bounds of `consumed`, when it is 0, and what a returned frame satisfies. -/
def Obligations.DecodeBounds : Prop :=
  ∀ (p : Params) (b : Bytes),
    (decodeBuffer p b).consumed ≤ b.length ∧
    ((decodeBuffer p b).status = .noStart → (decodeBuffer p b).consumed = b.length) ∧
    ((decodeBuffer p b).status = .incomplete → (decodeBuffer p b).consumed + 1 ≤ b.length) ∧
    ((decodeBuffer p b).consumed = 0 ↔
      b = [] ∨ ((decodeBuffer p b).status = .incomplete ∧ b[0]? = some p.startMarker)) ∧
    ((decodeBuffer p b).frame.isSome ↔ (decodeBuffer p b).status = .frameOk) ∧
    ∀ f, (decodeBuffer p b).frame = some f →
      5 ≤ f.length ∧ f[0]? = some p.startMarker ∧ f[f.length - 2]? = some p.endMarker ∧
      f[f.length - 1]? = some (checksum (slice f 0 (f.length - 1))) ∧
      ∀ i, 1 ≤ i → i + 3 ≤ f.length → f[i]? ≠ some p.endMarker

/-- R106: the round trip, with noise before the frame and any bytes after it. -/
def Obligations.RoundTripThroughNoise : Prop :=
  ∀ (p : Params) (id command : Byte) (payload f noise rest : Bytes),
    id ≠ p.endMarker → command ≠ p.endMarker → p.endMarker ∉ payload → p.startMarker ∉ noise →
    encodeFrame p id command payload = some f →
    decodeBuffer p f = { status := .frameOk, frame := some f, consumed := f.length } ∧
    decodeBuffer p (noise ++ f ++ rest) =
      { status := .frameOk, frame := some f, consumed := noise.length + f.length } ∧
    frameId f = id ∧ frameCommand f = command ∧ framePayload f = payload

/-- R107: a field byte equal to END cuts the candidate short, at the first such byte. -/
def Obligations.EndInFieldCutsFrame : Prop :=
  ∀ (p : Params) (id command : Byte) (payload : Bytes) (q : Nat),
    1 ≤ q → q ≤ payload.length + 2 →
    (buildFrame p id command payload)[q]? = some p.endMarker →
    (∀ i, 1 ≤ i → i < q → (buildFrame p id command payload)[i]? ≠ some p.endMarker) →
    (decodeBuffer p (buildFrame p id command payload)).consumed = q + 2 ∧
    (some (checksum (slice (buildFrame p id command payload) 0 (q + 1))) ≠
        (buildFrame p id command payload)[q + 1]? →
      (decodeBuffer p (buildFrame p id command payload)).status = .checksumError) ∧
    (some (checksum (slice (buildFrame p id command payload) 0 (q + 1))) =
        (buildFrame p id command payload)[q + 1]? →
      (q + 2 < 5 → (decodeBuffer p (buildFrame p id command payload)).status = .malformedShort) ∧
      (5 ≤ q + 2 → (decodeBuffer p (buildFrame p id command payload)).frame =
        some (slice (buildFrame p id command payload) 0 (q + 2))))

/-- R108: `f` is a frame whose fields hold no END and `g` is `f` with one bit of one byte inverted. `f` is
never returned from `g`; (a) START hit: no start, unless a later byte is START; (b) END hit: incomplete;
(c) another byte hit that does not become END, or the checksum: a checksum error. -/
def Obligations.OneBitFlipNeverPasses : Prop :=
  ∀ (p : Params) (id command : Byte) (payload f g : Bytes) (i k : Nat) (b : Byte),
    id ≠ p.endMarker → command ≠ p.endMarker → p.endMarker ∉ payload →
    f = buildFrame p id command payload → f[i]? = some b → k < 8 →
    g = f.set i (b ^^^ BitVec.twoPow 8 k) →
    (decodeBuffer p g).frame ≠ some f ∧
    (i = 0 → p.startMarker ∉ f.drop 1 → (decodeBuffer p g).status = .noStart) ∧
    (i = payload.length + 3 → (decodeBuffer p g).status = .incomplete) ∧
    (1 ≤ i → i ≤ payload.length + 2 → b ^^^ BitVec.twoPow 8 k ≠ p.endMarker →
      (decodeBuffer p g).status = .checksumError) ∧
    (i = payload.length + 4 → (decodeBuffer p g).status = .checksumError)

/-- R109: noise without START before a buffer changes only `consumed`; with START in it this fails. -/
def Obligations.BoundaryDiscard : Prop :=
  (∀ (p : Params) (noise b : Bytes), p.startMarker ∉ noise →
    (decodeBuffer p (noise ++ b)).status = (decodeBuffer p b).status ∧
    (decodeBuffer p (noise ++ b)).frame = (decodeBuffer p b).frame ∧
    (decodeBuffer p (noise ++ b)).consumed = noise.length + (decodeBuffer p b).consumed) ∧
  (∃ (p : Params) (noise b : Bytes), p.startMarker ∈ noise ∧
    (decodeBuffer p (noise ++ b)).status ≠ (decodeBuffer p b).status)

/-- R110: repeated decoding makes progress or is stable, and the loop ends on every buffer. -/
def Obligations.RepeatedDecodeEnds : Prop :=
  ∀ (p : Params) (b : Bytes),
    ((decodeBuffer p b).status = .noStart → dropConsumed p b = [] ∧
      decodeBuffer p (dropConsumed p b) = { status := .noStart, frame := none, consumed := 0 }) ∧
    ((decodeBuffer p b).status = .incomplete → (dropConsumed p b)[0]? = some p.startMarker ∧
      decodeBuffer p (dropConsumed p b) = { status := .incomplete, frame := none, consumed := 0 }) ∧
    ((decodeBuffer p b).status ≠ .noStart → (decodeBuffer p b).status ≠ .incomplete →
      3 ≤ (decodeBuffer p b).consumed) ∧
    ∃ n, (decodeBuffer p ((dropConsumed p)^[n] b)).consumed = 0

/-- R112: the candidates found in a stream and the bytes left over do not depend on how the stream is cut
into pieces, nor on how often DECODE is run between them. -/
def Obligations.ChunkingIndependence : Prop :=
  ∀ (p : Params) (pieces : List (Bytes × Nat)),
    runPieces p pieces [] = decodeAll p (pieces.map Prod.fst).flatten

/-! ### Instructions: decoding, and the step -/

/-- R60, R70, R72: the decoder reads back every well-formed instruction from what the encoder presents for
it, with every operand. The command bytes of inbound frames are distinct (D34). -/
def Obligations.DecodeEncodeAgree : Prop :=
  ∀ (p : Params) (i : Instr), p.inboundDistinct = true → i.wf p = true → decode p (encode p i) = .instr i

/-- R75: exactly the op codes 0x0 and 0xA to 0xF select no operation, and a request with one of them is
refused by the step. -/
def Obligations.ReservedOpsRefused : Prop :=
  (∀ (p : Params) (op : BitVec 4) (a : Operands),
    decode p (.request op a) = .rejected .reservedOp ↔ op.toNat = 0 ∨ 10 ≤ op.toNat) ∧
  (∀ (s : State) (op : BitVec 4) (a : Operands) (rest : List HostAction),
    s.currentTick.restart = false → s.params.validated = true → s.agenda = .request op a :: rest →
    op.toNat = 0 ∨ 10 ≤ op.toNat → step s = .refused .reservedOp)

/-- R70: the op codes 1 to 9 written out as table words select the nine operations, and 0 and 10 none. -/
def Obligations.OpCodeWordsDecode : Prop :=
  decodeTableWord 8 0x1 = some (.openLink [] 1) ∧ decodeTableWord 8 0x2 = some .close ∧
  decodeTableWord 8 0x3 = some (.readAvailable 0) ∧ decodeTableWord 8 0x4 = some (.writeFrame []) ∧
  decodeTableWord 8 0x5 = some .flush ∧ decodeTableWord 8 0x6 = some (.encode 0 0 []) ∧
  decodeTableWord 8 0x7 = some (.decode []) ∧ decodeTableWord 8 0x8 = some (.rxStep 0) ∧
  decodeTableWord 8 0x9 = some (.send 0 0 []) ∧ decodeTableWord 8 0x0 = none ∧
  decodeTableWord 8 0xA = none

/-- R72, R176: frames written out byte by byte are read as the reports they are, for every machine with
these markers and command bytes. -/
def Obligations.ReportFramesDecode : Prop :=
  ∀ p : Params, p.startMarker = 0x02 → p.endMarker = 0x17 → p.opcDataReady = 0x30 →
    p.opcOutputStateReport = 0x83 → p.opcInputStateReport = 0x87 → p.opcInputActivated = 0x88 →
    decode p (.dispatchFrame [0x02, 0x1C, 0x30, 0x17, 0x65]) = .instr (.dataReady 0x1C []) ∧
    decode p (.dispatchFrame [0x02, 0x1C, 0x83, 0x01, 0xA5, 0x17, 0x5E]) =
      .instr (.outputStateReport 0x1C [0x01, 0xA5]) ∧
    decode p (.dispatchFrame [0x02, 0x1C, 0x87, 0x00, 0x34, 0x12, 0x17, 0x02]) =
      .instr (.inputStateReport 0x1C [0x00, 0x34, 0x12]) ∧
    decode p (.dispatchFrame [0x02, 0x1C, 0x88, 0x02, 0x05, 0x17, 0xC4]) =
      .instr (.inputActivated 0x1C [0x02, 0x05]) ∧
    decode p (.dispatchFrame [0x02, 0x1C, 0x99, 0x17, 0xCE]) = .rejected .ignoredCommand

/-- A step runs the decoded instruction: after the environment's part (`beginStep`), the first entry of the
agenda is taken from it, and if it decodes to a well-formed instruction the step is that instruction's
`exec`. A host with an invalid configuration issues nothing, and with nothing on the agenda only the
environment's part happens. The agenda is the model's (assumption log 2). -/
def Obligations.StepRunsDecodedInstruction : Prop :=
  ∀ (s : State), s.currentTick.restart = false →
    (s.agenda = [] → step s = .next (beginStep s)) ∧
    ∀ (a : HostAction) (rest : List HostAction), s.agenda = a :: rest →
      (s.params.validated = false → step s = .refused .invalidConfiguration) ∧
      ∀ i, s.params.validated = true → decode s.params a = .instr i → i.wf s.params = true →
        step s = exec i { beginStep s with agenda := rest }

/-- R29, R30, R195: what happens before a step. The clock never goes back, the shutdown signal is sticky, a
submitted command replaces an unsent one, and nothing else changes but the line's input. The ticks are the
model's (assumption log 2 and 15). -/
def Obligations.EnvironmentBeforeStep : Prop :=
  ∀ s : State, s.now ≤ (beginStep s).now ∧ s.currentTick.reading ≤ (beginStep s).now ∧
    ((beginStep s).now = s.now ∨ (beginStep s).now = s.currentTick.reading) ∧
    ((beginStep s).shutdown = true ↔ s.shutdown = true ∨ s.currentTick.shutdown = true) ∧
    (∀ c, s.currentTick.submitted = some c → (beginStep s).pending = some c) ∧
    (s.currentTick.submitted = none → (beginStep s).pending = s.pending) ∧
    beginStep s =
      { s with
        now := (beginStep s).now, shutdown := (beginStep s).shutdown, pending := (beginStep s).pending,
        ticks := s.ticks.tail, ticksUsed := s.ticksUsed + 1, lineIn := (beginStep s).lineIn,
        rxfifo := (beginStep s).rxfifo }

/-- R136: the line agent's step takes the next byte of the line, into `RXFIFO` while the link is open and
nowhere while it is closed, and does nothing when the line is exhausted; and what the machine does
before a step or in a wait is that step, once for each byte that is there. When a byte is there is the
model's (assumption log 12). -/
def Obligations.LineAgentDelivers : Prop :=
  (∀ (s : State) (a : Arrival) (rest : List Arrival), s.lineIn = a :: rest →
    (s.linkOpen = true → lineAgentStep s = { s with lineIn := rest, rxfifo := s.rxfifo ++ [a.byte] }) ∧
    (s.linkOpen = false → lineAgentStep s = { s with lineIn := rest })) ∧
  (∀ s : State, s.lineIn = [] → lineAgentStep s = s) ∧
  ∀ s : State, deliver s = lineAgentStep^[s.due.length] s

/-- R31: the reset values of the block and of the host, for every parameter record. `LINK_CFG` and
`T_LAST_RX` hold no value of the spec's and are left out. -/
def Obligations.ResetValues : Prop :=
  ∀ p : Params,
    (State.resetWith p).rxbuf = [] ∧ (State.resetWith p).rxState = .idle ∧
    (State.resetWith p).dstat = .never ∧ (State.resetWith p).cntMalformed = 0 ∧
    (State.resetWith p).err = .noError ∧ (State.resetWith p).linkOpen = false ∧
    (State.resetWith p).log = [] ∧ (State.resetWith p).rxfifo = [] ∧ (State.resetWith p).txfifo = [] ∧
    (State.resetWith p).lineOut = [] ∧ (State.resetWith p).shutdown = false ∧
    (∀ m, m < p.outCount → (State.resetWith p).outputs[m]? = some 0) ∧
    (∀ m, m < p.inCount → (State.resetWith p).inputs[m]? = some 0) ∧
    (State.resetWith p).pending = none ∧ (State.resetWith p).pollCursor = ⟨0, true, none⟩ ∧
    State.reset = State.resetWith Config.params

/-- R240, R242, R243: a restart is a step that puts every piece of block and host state to its reset value,
`LINK_CFG` and `T_LAST_RX` to those of assumption log 1, and changes neither the parameters nor what the
environment still has to supply; a frame not dispatched yet is lost (assumption log 18). -/
def Obligations.RestartResets : Prop :=
  ∀ s : State, s.currentTick.restart = true →
    ∃ t, step s = .next t ∧
      t = { State.resetWith s.params with
        lineIn := (beginStep s).lineIn, now := (beginStep s).now,
        agenda := s.agenda.filter (fun a => !isReceivedFrame a),
        ticks := s.ticks.tail, ticksUsed := s.ticksUsed + 1, draws := s.draws, drawsUsed := s.drawsUsed }

/-- R182: the dispatch of a frame with another command byte than the four changes no state: no event, no
log record, no count. -/
def Obligations.UnknownCommandIgnored : Prop :=
  ∀ (s : State) (f : Bytes) (rest : List HostAction), s.currentTick.restart = false →
    s.params.validated = true → s.agenda = .dispatchFrame f :: rest →
    (decodeBuffer s.params f).frame = some f →
    frameCommand f ∉ [s.params.opcDataReady, s.params.opcOutputStateReport, s.params.opcInputStateReport,
      s.params.opcInputActivated] →
    step s = .next { beginStep s with agenda := rest }

/-! ### The codec's operations -/

/-- R95: ENCODE answers the frame and changes nothing but the response; it is refused when the frame is
longer than a bounded `TX_MAX_LEN`. -/
def Obligations.EncodeAnswersFrame : Prop :=
  ∀ (s : State) (id command : Byte) (payload : Bytes),
    ((∀ limit, s.params.txMaxLen = some limit → payload.length + 5 ≤ limit) →
      ∃ t body, body = [s.params.startMarker, id, command] ++ payload ++ [s.params.endMarker] ∧
        exec (.encode id command payload) s = .next t ∧
        t = { s with response := some ⟨.bytes (body ++ [checksum body]), s.status⟩ }) ∧
    (∀ limit, s.params.txMaxLen = some limit → limit < payload.length + 5 →
      exec (.encode id command payload) s = .refused .frameTooLong)

/-- R103, R249: DECODE always answers, whatever the link and the sequencer are, and changes nothing but the
response; in particular not `DSTAT`. -/
def Obligations.DecodeAnswersResult : Prop :=
  ∀ (s : State) (b : Bytes),
    exec (.decode b) s = .next { s with response := some ⟨.decoded (decodeBuffer s.params b), s.status⟩ }

/-! ### The transport's operations -/

/-- R122, R210, R226: OPEN of a closed link of a block that is not halted. The draw decides whether the device
can be opened; if not, the fatal entry is made. That the response carries the tried address is the model's
choice (assumption log 17). -/
def Obligations.OpenAcquiresLink : Prop :=
  ∀ (s : State) (address : Address) (baudRate : Nat), s.rxState ≠ .halted → s.linkOpen = false →
    ∃ t, exec (.openLink address baudRate) s = .next t ∧
      (s.currentDraw.fail = false →
        t = { s with
          linkCfg := ⟨address, baudRate⟩, rxfifo := [], txfifo := [], linkOpen := true,
          draws := s.draws.tail, drawsUsed := s.drawsUsed + 1, response := some ⟨.ok, t.status⟩ } ∧
        t.status.linkCfg = ⟨address, baudRate⟩) ∧
      (s.currentDraw.fail = true →
        t = { s with
          log := s.log ++ [⟨.error, .linkUnavailable⟩],
          err := if s.err = .noError then .linkUnavailable else s.err,
          rxfifo := [], txfifo := [], linkOpen := false, rxState := .halted,
          draws := s.draws.tail, drawsUsed := s.drawsUsed + 1,
          response := some ⟨.linkUnavailable address, t.status⟩ })

/-- R122: OPEN of a closed link of a block that is not halted completes when its draw says that the device can
be opened: the next state, in full, with the status that the response reports. -/
def Obligations.OpenCompletes : Prop :=
  ∀ (s : State) (address : Address) (baudRate : Nat), s.rxState ≠ .halted → s.linkOpen = false →
    s.currentDraw.fail = false →
    exec (.openLink address baudRate) s = .next { s with
      linkCfg := ⟨address, baudRate⟩, rxfifo := [], txfifo := [], linkOpen := true,
      draws := s.draws.tail, drawsUsed := s.drawsUsed + 1,
      response := some ⟨.ok, { s.status with linkOpen := true, linkCfg := ⟨address, baudRate⟩ }⟩ }

/-- R132: CLOSE, in every state. -/
def Obligations.CloseReleasesLink : Prop :=
  ∀ s : State, ∃ t, exec .close s = .next t ∧
    t = { s with rxfifo := [], txfifo := [], linkOpen := false, response := some ⟨.ok, t.status⟩ }

/-- R124: READ_AVAILABLE on an open link, whose draw decides whether the read fails; if so, the fatal entry
is made. If not, it returns the oldest bytes and loses none; with bytes there it returns all of them at
once; else it waits until the first arrival, or for `maxWait`; never longer. When a byte is there is the
model's (assumption log 12). -/
def Obligations.ReadReturnsPendingBytes : Prop :=
  ∀ (s : State) (maxWait : Nat), s.rxState ≠ .halted → s.linkOpen = true →
    ∃ t, exec (.readAvailable maxWait) s = .next t ∧
      (s.currentDraw.fail = true →
        t.rxState = .halted ∧ t.linkOpen = false ∧ t.response = some ⟨.transportReadError, t.status⟩) ∧
      (s.currentDraw.fail = false → ∃ chunk,
        t = { s with
          rxfifo := [], lineIn := t.lineIn, now := t.now, draws := s.draws.tail,
          drawsUsed := s.drawsUsed + 1, response := some ⟨.bytes chunk, t.status⟩ } ∧
        chunk ++ t.lineIn.map Arrival.byte = s.rxfifo ++ s.lineIn.map Arrival.byte ∧
        s.now ≤ t.now ∧ t.now ≤ s.now + maxWait ∧
        (s.rxfifo ≠ [] → chunk = s.rxfifo ∧ t.now = s.now) ∧
        (s.rxfifo = [] → (∀ a rest, s.lineIn = a :: rest → s.there (s.now + maxWait) a = false) →
          chunk = [] ∧ t.now = s.now + maxWait) ∧
        (s.rxfifo = [] → ∀ a rest, s.lineIn = a :: rest → s.there (s.now + maxWait) a = true →
          t.now = max s.now a.time ∧ chunk ≠ [] ∧
          chunk = (s.lineIn.takeWhile (s.there t.now)).map Arrival.byte))

/-- R126, R214: a read that fails, in READ_AVAILABLE or in RX_STEP, returns no bytes, leaves `RXBUF`,
`DSTAT` and `CNT_MALFORMED`, and halts the block. -/
def Obligations.ReadFailureIsFatal : Prop :=
  ∀ (s : State) (maxWait : Nat), s.rxState ≠ .halted → s.linkOpen = true → s.shutdown = false →
    s.currentDraw.fail = true →
    ∃ t, exec (.readAvailable maxWait) s = .next t ∧ exec (.rxStep maxWait) s = .next t ∧
      t = { s with
        log := s.log ++ [⟨.error, .transportReadError⟩],
        err := if s.err = .noError then .transportReadError else s.err,
        rxfifo := [], txfifo := [], linkOpen := false, rxState := .halted,
        draws := s.draws.tail, drawsUsed := s.drawsUsed + 1,
        response := some ⟨.transportReadError, t.status⟩ }

/-- R127, R128: WRITE_FRAME on an open link. Without a failure all bytes are on the line and none waits;
with one, a part from the front is, the rest is dropped, and the link stays open. More bytes than a bounded
`TX_MAX_LEN` are refused. -/
def Obligations.WriteFramePutsBytesOnLine : Prop :=
  ∀ (s : State) (bytes : Bytes), s.rxState ≠ .halted → s.linkOpen = true →
    ((∀ limit, s.params.txMaxLen = some limit → bytes.length ≤ limit) →
      ∃ t, exec (.writeFrame bytes) s = .next t ∧
        (s.currentDraw.fail = false →
          t = { s with
            lineOut := s.lineOut ++ (s.txfifo ++ bytes), txfifo := [], draws := s.draws.tail,
            drawsUsed := s.drawsUsed + 1, response := some ⟨.ok, t.status⟩ }) ∧
        (s.currentDraw.fail = true →
          t = { s with
            lineOut := s.lineOut ++ bytes.take s.currentDraw.wireCount, txfifo := [],
            log := s.log ++ [⟨.error, .linkWriteError⟩], draws := s.draws.tail,
            drawsUsed := s.drawsUsed + 1, response := some ⟨.linkWriteError, t.status⟩ })) ∧
    (∀ limit, s.params.txMaxLen = some limit → limit < bytes.length →
      exec (.writeFrame bytes) s = .refused .frameTooLong)

/-- R130, R53: FLUSH on an open link. With nothing buffered it cannot fail; else it puts every buffered byte
on the line, or, when the device fails, a part from the front. -/
def Obligations.FlushDrainsTransmitSide : Prop :=
  ∀ s : State, s.rxState ≠ .halted → s.linkOpen = true →
    ∃ t, exec .flush s = .next t ∧
      (s.currentDraw.fail = false ∨ s.txfifo = [] →
        t = { s with
          lineOut := s.lineOut ++ s.txfifo, txfifo := [], draws := s.draws.tail,
          drawsUsed := s.drawsUsed + 1, response := some ⟨.ok, t.status⟩ }) ∧
      (s.currentDraw.fail = true → s.txfifo ≠ [] →
        t = { s with
          lineOut := s.lineOut ++ s.txfifo.take s.currentDraw.wireCount, txfifo := [],
          log := s.log ++ [⟨.error, .linkWriteError⟩], draws := s.draws.tail,
          drawsUsed := s.drawsUsed + 1, response := some ⟨.linkWriteError, t.status⟩ })

/-- R160, R82: SEND is WRITE_FRAME of the frame ENCODE makes, in every state, its refusals included; so with a
payload that fits, on an open link of a block that is not halted, it puts that frame on the line. -/
def Obligations.SendTransmitsEncodedFrame : Prop :=
  ∀ (s : State) (id command : Byte) (payload : Bytes),
    (∀ u f, exec (.encode id command payload) s = .next u → u.response = some ⟨.bytes f, u.status⟩ →
      exec (.send id command payload) s = exec (.writeFrame f) s) ∧
    (∀ r, exec (.encode id command payload) s = .refused r → exec (.send id command payload) s = .refused r) ∧
    ((∀ limit, s.params.txMaxLen = some limit → payload.length + 5 ≤ limit) → s.rxState ≠ .halted →
      s.linkOpen = true → ∃ t body, exec (.send id command payload) s = .next t ∧
        body = [s.params.startMarker, id, command] ++ payload ++ [s.params.endMarker] ∧
        (s.currentDraw.fail = false →
          t = { s with
            lineOut := s.lineOut ++ (s.txfifo ++ (body ++ [checksum body])), txfifo := [],
            draws := s.draws.tail, drawsUsed := s.drawsUsed + 1, response := some ⟨.ok, t.status⟩ }) ∧
        (s.currentDraw.fail = true →
          t = { s with
            lineOut := s.lineOut ++ (body ++ [checksum body]).take s.currentDraw.wireCount, txfifo := [],
            log := s.log ++ [⟨.error, .linkWriteError⟩], draws := s.draws.tail,
            drawsUsed := s.drawsUsed + 1, response := some ⟨.linkWriteError, t.status⟩ }))

/-- R120: the preconditions of the transport's operations; CLOSE has none (`CloseReleasesLink`). RX_STEP,
which reads, has those of READ_AVAILABLE. That a block both halted and closed refuses as halted is the
model's choice (assumption log 13). -/
def Obligations.TransportPreconditions : Prop :=
  ∀ (s : State) (address : Address) (baudRate maxWait : Nat) (bytes : Bytes),
    (s.rxState = .halted →
      exec (.openLink address baudRate) s = .refused .halted ∧
      exec (.readAvailable maxWait) s = .refused .halted ∧ exec (.writeFrame bytes) s = .refused .halted ∧
      exec .flush s = .refused .halted ∧ exec (.rxStep maxWait) s = .refused .halted) ∧
    (s.rxState ≠ .halted → s.linkOpen = false →
      exec (.readAvailable maxWait) s = .refused .linkNotOpen ∧
      exec (.writeFrame bytes) s = .refused .linkNotOpen ∧ exec .flush s = .refused .linkNotOpen ∧
      (s.shutdown = false → exec (.rxStep maxWait) s = .refused .linkNotOpen)) ∧
    (s.rxState ≠ .halted → s.linkOpen = true →
      exec (.openLink address baudRate) s = .refused .linkAlreadyOpen)

/-- R162, D10: a chunk that is there and does not fit a bounded `RXBUF_CAP` is refused. -/
def Obligations.RxOverflowRefused : Prop :=
  ∀ (s r : State) (maxWait cap : Nat) (chunk : Bytes), s.shutdown = false →
    exec (.readAvailable maxWait) s = .next r → r.response = some ⟨.bytes chunk, r.status⟩ → chunk ≠ [] →
    s.params.rxbufCap = some cap → cap < s.rxbuf.length + chunk.length →
    exec (.rxStep maxWait) s = .refused .rxOverflow

/-! ### The receive sequencer -/

/-- R153, R156 to R158: RX_STEP after a read that did not fail and whose chunk fits. Nothing there: idle. Not
quiet: it goes on accumulating. Quiet: one DECODE, the consumed bytes leave the buffer, a checksum error
is logged, a short candidate counted, a frame handed to the host. The read is READ_AVAILABLE's: `r` is the
state it would leave and `chunk` what it would return. That a frame is handed over by putting it first on
the agenda is the model's choice (assumption log 2 and 11). -/
def Obligations.RxStepAccumulatesThenDecodes : Prop :=
  ∀ (s r : State) (maxWait lastRx : Nat) (chunk buf : Bytes), s.shutdown = false →
    exec (.readAvailable maxWait) s = .next r → r.response = some ⟨.bytes chunk, r.status⟩ →
    buf = s.rxbuf ++ chunk → lastRx = (if chunk = [] then s.tLastRx else r.now) →
    (∀ cap, s.params.rxbufCap = some cap → chunk ≠ [] → buf.length ≤ cap) →
    ∃ t, exec (.rxStep maxWait) s = .next t ∧
      (buf = [] → t = { r with rxState := .idle, response := some ⟨.rxStep .idle none, t.status⟩ }) ∧
      (buf ≠ [] → r.now < lastRx + s.params.silenceMs →
        t = { r with
          rxbuf := buf, tLastRx := lastRx, rxState := if chunk = [] then s.rxState else .framing,
          response := some ⟨.rxStep .accumulating none, t.status⟩ }) ∧
      (buf ≠ [] → lastRx + s.params.silenceMs ≤ r.now →
        t = { r with
          rxbuf := buf.drop (decodeBuffer s.params buf).consumed, tLastRx := lastRx,
          dstat := .ran (decodeBuffer s.params buf).status,
          rxState := if buf.drop (decodeBuffer s.params buf).consumed = [] then .idle else .framing,
          log := if (decodeBuffer s.params buf).status = .checksumError then
            s.log ++ [⟨.warning, .frameChecksumError⟩] else s.log,
          cntMalformed := if (decodeBuffer s.params buf).status = .malformedShort then
            s.cntMalformed + 1 else s.cntMalformed,
          agenda := ((decodeBuffer s.params buf).frame.map HostAction.dispatchFrame).toList ++ s.agenda,
          response := some ⟨.rxStep (.decoded (decodeBuffer s.params buf).status)
            (decodeBuffer s.params buf).frame, t.status⟩ })

/-- R153, R162, R163: RX_STEP ends in a next state on every open link of a block that is not halted, unless the
chunk its read returns overflows a bounded accumulation buffer; whatever the device, the line and the buffer
do, and also when shutdown is seen. -/
def Obligations.RxStepCompletes : Prop :=
  ∀ (s : State) (maxWait : Nat), s.rxState ≠ .halted → s.linkOpen = true ∨ s.shutdown = true →
    (s.shutdown = false → s.currentDraw.fail = false →
      rxOverflows s.popDraw (readChunk maxWait s.popDraw) = false) →
    ∃ t, exec (.rxStep maxWait) s = .next t ∧ t.response ≠ none

/-- R154: a step that reads bytes does not decode when the threshold is 1 or more, and decodes at once when
it is 0; with a threshold of 0 a step that reads nothing decodes what is there too. `r` and `chunk` are what
READ_AVAILABLE would leave and return. -/
def Obligations.ReadingStepDoesNotDecode : Prop :=
  ∀ (s r : State) (maxWait : Nat) (chunk : Bytes), s.shutdown = false →
    exec (.readAvailable maxWait) s = .next r → r.response = some ⟨.bytes chunk, r.status⟩ →
    (∀ cap, s.params.rxbufCap = some cap → (s.rxbuf ++ chunk).length ≤ cap) →
    (chunk ≠ [] → 1 ≤ s.params.silenceMs → ∃ t, exec (.rxStep maxWait) s = .next t ∧
      t.rxbuf = s.rxbuf ++ chunk ∧ t.tLastRx = r.now ∧ t.dstat = s.dstat ∧ t.rxState = .framing ∧
      t.response = some ⟨.rxStep .accumulating none, t.status⟩) ∧
    (s.params.silenceMs = 0 → s.rxbuf ++ chunk ≠ [] → (s.rxbuf ≠ [] → s.tLastRx ≤ s.now) →
      ∃ t, exec (.rxStep maxWait) s = .next t ∧
        t.dstat = .ran (decodeBuffer s.params (s.rxbuf ++ chunk)).status ∧
        t.rxbuf = (s.rxbuf ++ chunk).drop (decodeBuffer s.params (s.rxbuf ++ chunk)).consumed ∧
        t.response = some ⟨.rxStep (.decoded (decodeBuffer s.params (s.rxbuf ++ chunk)).status)
          (decodeBuffer s.params (s.rxbuf ++ chunk)).frame, t.status⟩)

/-- R221: RX_STEP sees the shutdown signal at its start: the link is closed, `ERR` is Shutdown, the block is
halted, nothing is read and nothing is logged. -/
def Obligations.ShutdownHaltsAtRxStep : Prop :=
  ∀ (s : State) (maxWait : Nat), s.rxState ≠ .halted → s.shutdown = true →
    ∃ t, exec (.rxStep maxWait) s = .next t ∧
      t = { s with
        rxfifo := [], txfifo := [], linkOpen := false, err := .shutdown, rxState := .halted,
        response := some ⟨.rxStep .halted none, t.status⟩ }

/-- R156: a frame in the buffer, behind noise and before further bytes, is delivered by the first step that
finds the line quiet: it and the noise leave the buffer, and its dispatch is the host's next action (the
agenda is the model's, assumption log 2 and 11). -/
def Obligations.QuietStepDeliversFrame : Prop :=
  ∀ (s : State) (maxWait : Nat) (id command : Byte) (payload noise rest : Bytes),
    s.rxState ≠ .halted → s.shutdown = false → s.linkOpen = true → s.currentDraw.fail = false →
    s.rxfifo = [] → s.lineIn = [] → id ≠ s.params.endMarker → command ≠ s.params.endMarker →
    s.params.endMarker ∉ payload → s.params.startMarker ∉ noise →
    s.rxbuf = noise ++ buildFrame s.params id command payload ++ rest →
    s.tLastRx + s.params.silenceMs ≤ s.now + maxWait →
    ∃ t, exec (.rxStep maxWait) s = .next t ∧
      t = { s with
        rxbuf := rest, dstat := .ran .frameOk, rxState := if rest = [] then .idle else .framing,
        now := s.now + maxWait, draws := s.draws.tail, drawsUsed := s.drawsUsed + 1,
        agenda := .dispatchFrame (buildFrame s.params id command payload) :: s.agenda,
        response := some ⟨.rxStep (.decoded .frameOk) (some (buildFrame s.params id command payload)),
          t.status⟩ }

/-! ### The host: dispatch, handshake, scheduler, tables -/

/-- R177: only a token with the host's id is acted on; it emits `DataReady`, and its payload is not looked
at. -/
def Obligations.DataReadyTestsId : Prop :=
  ∀ (s : State) (id : Byte) (payload payload' : Bytes),
    (id ≠ s.params.hostPeerId → exec (.dataReady id payload) s = .next s) ∧
    exec (.dataReady id payload) s = exec (.dataReady id payload') s ∧
    ∀ t, id = s.params.hostPeerId → exec (.dataReady id payload) s = .next t →
      t.events = s.events ++ [.dataReady]

/-- R193, R194: a token that finds a command waiting sends that command and no poll; no field of
`PollCursor` changes; the command is gone from the slot whether or not the write fails. -/
def Obligations.TokenSendsPendingCommand : Prop :=
  ∀ (s : State) (payload f : Bytes) (c : Command), s.pending = some c → s.rxState ≠ .halted →
    s.linkOpen = true → encodeFrame s.params s.params.controllerId c.opcode c.payload = some f →
    ∃ t, exec (.dataReady s.params.hostPeerId payload) s = .next t ∧
      (s.currentDraw.fail = false →
        t = { s with
          pending := none, events := s.events ++ [.dataReady], lineOut := s.lineOut ++ (s.txfifo ++ f),
          txfifo := [], draws := s.draws.tail, drawsUsed := s.drawsUsed + 1,
          response := some ⟨.ok, t.status⟩ }) ∧
      (s.currentDraw.fail = true →
        t = { s with
          pending := none, events := s.events ++ [.dataReady],
          lineOut := s.lineOut ++ f.take s.currentDraw.wireCount, txfifo := [],
          log := s.log ++ [⟨.error, .linkWriteError⟩], draws := s.draws.tail,
          drawsUsed := s.drawsUsed + 1, response := some ⟨.linkWriteError, t.status⟩ })

/-- R183, R191: a token that finds no command waiting and the poll interval elapsed (or no poll yet) sends
the query of the cursor's module and kind, and moves the cursor, also when the write fails. -/
def Obligations.TokenSendsDuePoll : Prop :=
  ∀ (s : State) (payload f : Bytes) (c : Command) (n : Nat), s.pending = none → s.rxState ≠ .halted →
    s.linkOpen = true → s.pollCursor.currentModuleIndex = n →
    (∀ last, s.pollCursor.lastPollTimestamp = some last → last + s.params.pollIntervalMs ≤ s.now) →
    c = (if s.pollCursor.nextKindIsOutputPoll then
        ⟨s.params.opcRequestOutputs, Config.requestOutputsPayload n⟩
      else ⟨s.params.opcRequestInputs, Config.requestInputsPayload n⟩) →
    encodeFrame s.params s.params.controllerId c.opcode c.payload = some f →
    ∃ t, exec (.dataReady s.params.hostPeerId payload) s = .next t ∧
      t.pollCursor =
        (if s.pollCursor.nextKindIsOutputPoll then ⟨n, false, some s.now⟩
        else ⟨(n + 1) % max s.params.outCount s.params.inCount, true, some s.now⟩) ∧
      (s.currentDraw.fail = false →
        t = { s with
          pollCursor := t.pollCursor, events := s.events ++ [.dataReady],
          lineOut := s.lineOut ++ (s.txfifo ++ f), txfifo := [], draws := s.draws.tail,
          drawsUsed := s.drawsUsed + 1, response := some ⟨.ok, t.status⟩ }) ∧
      (s.currentDraw.fail = true →
        t = { s with
          pollCursor := t.pollCursor, events := s.events ++ [.dataReady],
          lineOut := s.lineOut ++ f.take s.currentDraw.wireCount, txfifo := [],
          log := s.log ++ [⟨.error, .linkWriteError⟩], draws := s.draws.tail,
          drawsUsed := s.drawsUsed + 1, response := some ⟨.linkWriteError, t.status⟩ })

/-- R183: a token that finds no command waiting and no poll due sends nothing: only its event is recorded. -/
def Obligations.TokenWithNothingDueSendsNothing : Prop :=
  ∀ (s : State) (payload : Bytes) (last : Nat), s.pending = none →
    s.pollCursor.lastPollTimestamp = some last → s.now < last + s.params.pollIntervalMs →
    exec (.dataReady s.params.hostPeerId payload) s = .next { s with events := s.events ++ [.dataReady] }

/-- R178: an output-state report of a configured module stores its mask and emits its event; the id byte and
further payload bytes do not matter. -/
def Obligations.OutputReportStoresMask : Prop :=
  ∀ (s : State) (id m mask : Byte) (rest : Bytes), m.toNat < s.params.outCount →
    exec (.outputStateReport id (m :: mask :: rest)) s =
      .next { s with
        outputs := s.outputs.set m.toNat mask, events := s.events ++ [.outputState m.toNat mask] }

/-- R179: an input-state report of a configured module stores the mask low byte first and emits its event. -/
def Obligations.InputReportStoresMask : Prop :=
  ∀ (s : State) (id m low high : Byte) (rest : Bytes), m.toNat < s.params.inCount →
    ∃ mask : InputMask, mask.toNat = low.toNat + 256 * high.toNat ∧
      exec (.inputStateReport id (m :: low :: high :: rest)) s =
        .next { s with
          inputs := s.inputs.set m.toNat mask, events := s.events ++ [.inputState m.toNat mask] }

/-- R181: an activation emits its event for every module and input, touching no mask; a payload of fewer
than two bytes is counted only. -/
def Obligations.ActivationEmitsEvent : Prop :=
  ∀ (s : State) (id m k : Byte) (rest short : Bytes), short.length < 2 →
    exec (.inputActivated id (m :: k :: rest)) s =
      .next { s with events := s.events ++ [.inputActivated m.toNat k.toNat] } ∧
    exec (.inputActivated id short) s = .next { s with cntMalformed := s.cntMalformed + 1 }

/-- R180: a report that is too short, or of a module beyond the configured count, is counted and changes
nothing else. -/
def Obligations.MalformedReportIsOnlyCounted : Prop :=
  ∀ (s : State) (id : Byte) (payload : Bytes),
    (payload.length < 2 ∨ s.params.outCount ≤ (payload.getD 0 0).toNat →
      exec (.outputStateReport id payload) s = .next { s with cntMalformed := s.cntMalformed + 1 }) ∧
    (payload.length < 3 ∨ s.params.inCount ≤ (payload.getD 0 0).toNat →
      exec (.inputStateReport id payload) s = .next { s with cntMalformed := s.cntMalformed + 1 })

/-- R185, R186, R187: the host's two calls are the three outbound commands, which replace what waits in the
slot; nothing is sent. -/
def Obligations.CommandsAreQueued : Prop :=
  ∀ (s : State) (m o d : Nat),
    (decode s.params (.submitCommand m o d) = .instr (.setOutput m o d) ∧
      decode s.params (.requestModuleRefresh m .outputs) = .instr (.requestOutputs m) ∧
      decode s.params (.requestModuleRefresh m .inputs) = .instr (.requestInputs m)) ∧
    exec (.setOutput m o d) s =
      .next { s with pending := some ⟨s.params.opcSetOutput, Config.setOutputPayload m o d⟩ } ∧
    exec (.requestOutputs m) s =
      .next { s with pending := some ⟨s.params.opcRequestOutputs, Config.requestOutputsPayload m⟩ } ∧
    exec (.requestInputs m) s =
      .next { s with pending := some ⟨s.params.opcRequestInputs, Config.requestInputsPayload m⟩ }

/-- R60, R72, R184: an outbound command that is queued and then meets a token goes out as the frame of its
row of the table, with `CONTROLLER_ID` and its command byte. -/
def Obligations.QueuedCommandGoesOutAsItsFrame : Prop :=
  ∀ (s : State) (i : Instr) (payload f : Bytes),
    (∃ m o d, i = .setOutput m o d) ∨ (∃ m, i = .requestOutputs m) ∨ (∃ m, i = .requestInputs m) →
    rowFrame s.params i = some f → s.params.txMaxLen = none → s.rxState ≠ .halted → s.linkOpen = true →
    s.currentDraw.fail = false → s.txfifo = [] →
    ∃ u t, exec i s = .next u ∧ exec (.dataReady s.params.hostPeerId payload) u = .next t ∧
      t.lineOut = s.lineOut ++ f ∧ t.pending = none ∧ t.pollCursor = s.pollCursor

/-- R172: the bounds-checked mutators and bit readers of `ModuleState`: a stored mask is read back bit by
bit, no other module changes, and anything out of range is a no-op or reads as false. -/
def Obligations.ModuleBitsReadBack : Prop :=
  ∀ (s : State) (m m' bit : Nat) (mask : Byte) (wide : InputMask), s.TablesSized →
    isOutputOn (setOutputMask m mask s) m bit =
      (decide (m < s.params.outCount) && decide (bit < 8) && mask.getLsbD bit) ∧
    isInputOn (setInputMask m wide s) m bit =
      (decide (m < s.params.inCount) && decide (bit < 16) && wide.getLsbD bit) ∧
    (m' ≠ m → isOutputOn (setOutputMask m mask s) m' bit = isOutputOn s m' bit ∧
      isInputOn (setInputMask m wide s) m' bit = isInputOn s m' bit) ∧
    (s.params.outCount ≤ m → setOutputMask m mask s = s) ∧
    (s.params.inCount ≤ m → setInputMask m wide s = s)

/-- R192: `2 * M` consecutive opportunities from a pair boundary issue outputs and inputs of every module in
order, around from the starting one; and from any cursor, every output and input module is queried. -/
def Obligations.PollSchedulerIsFair : Prop :=
  ∀ (s : State) (times : List Nat) (M : Nat), M = max s.params.outCount s.params.inCount →
    s.pollCursor.currentModuleIndex < M → times.length = 2 * M →
    (s.pollCursor.nextKindIsOutputPoll = true →
      pollQueries times s = ((List.range M).map fun k =>
        [requestOutputsCommand s.params ((s.pollCursor.currentModuleIndex + k) % M),
          requestInputsCommand s.params ((s.pollCursor.currentModuleIndex + k) % M)]).flatten) ∧
    (∀ m, m < s.params.outCount → requestOutputsCommand s.params m ∈ pollQueries times s) ∧
    (∀ m, m < s.params.inCount → requestInputsCommand s.params m ∈ pollQueries times s)

/-! ### The whole machine -/

/-- R226: the fatal entry: logged, `ERR` keeps the first cause, the link closed, the block halted; `RXBUF`,
`DSTAT`, `CNT_MALFORMED` and everything else keep their values. -/
def Obligations.FatalEntryEffect : Prop :=
  ∀ (s : State),
    fatalEntry .linkUnavailable s =
      { s with
        log := s.log ++ [⟨.error, .linkUnavailable⟩],
        err := if s.err = .noError then .linkUnavailable else s.err,
        linkOpen := false, rxfifo := [], txfifo := [], rxState := .halted } ∧
    fatalEntry .transportReadError s =
      { s with
        log := s.log ++ [⟨.error, .transportReadError⟩],
        err := if s.err = .noError then .transportReadError else s.err,
        linkOpen := false, rxfifo := [], txfifo := [], rxState := .halted }

/-- R10, R14, R17, R21, R26, R27, R150, R171: the invariant of the machine between steps is kept by every
step of every machine with a validated configuration. -/
def Obligations.StepKeepsInvariant : Prop :=
  ∀ s t : State, s.params.validated = true → s.Inv → step s = .next t → t.Inv

/-- The invariant holds after reset: of this machine, and of every machine whose counts are positive. -/
def Obligations.ResetMeetsInvariant : Prop :=
  State.reset.Inv ∧ ∀ p : Params, p.validated = true → (State.resetWith p).Inv

/-- R28, R129, R257: no instruction takes back a byte from the line, and only WRITE_FRAME, SEND, FLUSH and a
data-ready token put bytes on it: no other frame, and no command of the host, sends anything by itself. -/
def Obligations.OnlyTransmittersReachLine : Prop :=
  ∀ (i : Instr) (s t : State), exec i s = .next t →
    s.lineOut <+: t.lineOut ∧
    ((∀ bytes, i ≠ .writeFrame bytes) → (∀ id command payload, i ≠ .send id command payload) →
      i ≠ .flush → (∀ payload, i ≠ .dataReady s.params.hostPeerId payload) → t.lineOut = s.lineOut)

/-- R226, R229: only reset leaves `Halted`. Every step of a halted block that is no restart leaves it halted
with the same cause, buffer and line. -/
def Obligations.HaltedUntilReset : Prop :=
  ∀ s t : State, s.rxState = .halted → s.currentTick.restart = false → step s = .next t →
    t.rxState = .halted ∧ t.err = s.err ∧ t.rxbuf = s.rxbuf ∧ t.lineOut = s.lineOut ∧
    t.tLastRx = s.tLastRx ∧ t.dstat = s.dstat

/-- R16, R17, R24, R29, R30, R243: over every step that is no restart the log, the events and the line's
output only grow, the counter is never decremented, time never goes back, the shutdown signal and the
first fatal cause stay, and no step changes the parameters. -/
def Obligations.RecordsOnlyGrow : Prop :=
  ∀ s t : State, step s = .next t →
    t.params = s.params ∧ s.now ≤ t.now ∧
    (s.currentTick.restart = false →
      s.log <+: t.log ∧ s.events <+: t.events ∧ s.lineOut <+: t.lineOut ∧
      s.cntMalformed ≤ t.cntMalformed ∧ (s.shutdown = true → t.shutdown = true) ∧
      (s.HaltedHasCause → s.err ≠ .noError → t.err = s.err))

/-- R49, R57: bytes go from the line through `RXFIFO` into `RXBUF` in order, none lost, doubled or moved,
and leave it from the front only: over the environment's part of a step while the link is open, and over
every RX_STEP that neither meets a shutdown nor a failing read. Its chunk goes to the back of `RXBUF`, and then
`k` bytes leave the front: none where it answers IDLE or ACCUMULATING, and where it decodes exactly the bytes
that DECODE reports as consumed. -/
def Obligations.ReceiveOrderKept : Prop :=
  (∀ s : State, s.linkOpen = true →
    (beginStep s).rxbuf = s.rxbuf ∧
    (beginStep s).rxfifo ++ (beginStep s).lineIn.map Arrival.byte =
      s.rxfifo ++ s.lineIn.map Arrival.byte) ∧
  ∀ (s t : State) (maxWait : Nat) (buf : Bytes), exec (.rxStep maxWait) s = .next t → s.shutdown = false →
    s.currentDraw.fail = false → buf = s.rxbuf ++ readChunk maxWait s.popDraw →
    buf ++ (t.rxfifo ++ t.lineIn.map Arrival.byte) =
      s.rxbuf ++ (s.rxfifo ++ s.lineIn.map Arrival.byte) ∧
    ∃ k, k ≤ buf.length ∧ t.rxbuf = buf.drop k ∧
      (k = 0 ∧ (t.response = some ⟨.rxStep .idle none, t.status⟩ ∨
          t.response = some ⟨.rxStep .accumulating none, t.status⟩) ∨
        k = (decodeBuffer s.params buf).consumed ∧
          t.response = some ⟨.rxStep (.decoded (decodeBuffer s.params buf).status)
            (decodeBuffer s.params buf).frame, t.status⟩)
end

