-- ==== Sys2Proof/Laws/State.lean ====
section
/-! SUPPORT. One lemma for each field of `State` under each named update, all true by definition, so that no
later proof unfolds a record update. -/

namespace Sys2Proof.Machine

variable (s : State)

@[simp] theorem popDraw_params : s.popDraw.params = s.params := rfl
@[simp] theorem popDraw_rxbuf : s.popDraw.rxbuf = s.rxbuf := rfl
@[simp] theorem popDraw_rxState : s.popDraw.rxState = s.rxState := rfl
@[simp] theorem popDraw_dstat : s.popDraw.dstat = s.dstat := rfl
@[simp] theorem popDraw_cntMalformed : s.popDraw.cntMalformed = s.cntMalformed := rfl
@[simp] theorem popDraw_err : s.popDraw.err = s.err := rfl
@[simp] theorem popDraw_linkOpen : s.popDraw.linkOpen = s.linkOpen := rfl
@[simp] theorem popDraw_linkCfg : s.popDraw.linkCfg = s.linkCfg := rfl
@[simp] theorem popDraw_tLastRx : s.popDraw.tLastRx = s.tLastRx := rfl
@[simp] theorem popDraw_log : s.popDraw.log = s.log := rfl
@[simp] theorem popDraw_rxfifo : s.popDraw.rxfifo = s.rxfifo := rfl
@[simp] theorem popDraw_txfifo : s.popDraw.txfifo = s.txfifo := rfl
@[simp] theorem popDraw_lineOut : s.popDraw.lineOut = s.lineOut := rfl
@[simp] theorem popDraw_lineIn : s.popDraw.lineIn = s.lineIn := rfl
@[simp] theorem popDraw_now : s.popDraw.now = s.now := rfl
@[simp] theorem popDraw_shutdown : s.popDraw.shutdown = s.shutdown := rfl
@[simp] theorem popDraw_outputs : s.popDraw.outputs = s.outputs := rfl
@[simp] theorem popDraw_inputs : s.popDraw.inputs = s.inputs := rfl
@[simp] theorem popDraw_pending : s.popDraw.pending = s.pending := rfl
@[simp] theorem popDraw_pollCursor : s.popDraw.pollCursor = s.pollCursor := rfl
@[simp] theorem popDraw_events : s.popDraw.events = s.events := rfl
@[simp] theorem popDraw_response : s.popDraw.response = s.response := rfl
@[simp] theorem popDraw_agenda : s.popDraw.agenda = s.agenda := rfl
@[simp] theorem popDraw_ticks : s.popDraw.ticks = s.ticks := rfl
@[simp] theorem popDraw_ticksUsed : s.popDraw.ticksUsed = s.ticksUsed := rfl
@[simp] theorem popDraw_draws : s.popDraw.draws = s.draws.tail := rfl
@[simp] theorem popDraw_drawsUsed : s.popDraw.drawsUsed = s.drawsUsed + 1 := rfl

@[simp] theorem clearRxfifo_params : (clearRxfifo s).params = s.params := rfl
@[simp] theorem clearRxfifo_rxbuf : (clearRxfifo s).rxbuf = s.rxbuf := rfl
@[simp] theorem clearRxfifo_rxState : (clearRxfifo s).rxState = s.rxState := rfl
@[simp] theorem clearRxfifo_dstat : (clearRxfifo s).dstat = s.dstat := rfl
@[simp] theorem clearRxfifo_cntMalformed : (clearRxfifo s).cntMalformed = s.cntMalformed := rfl
@[simp] theorem clearRxfifo_err : (clearRxfifo s).err = s.err := rfl
@[simp] theorem clearRxfifo_linkOpen : (clearRxfifo s).linkOpen = s.linkOpen := rfl
@[simp] theorem clearRxfifo_linkCfg : (clearRxfifo s).linkCfg = s.linkCfg := rfl
@[simp] theorem clearRxfifo_tLastRx : (clearRxfifo s).tLastRx = s.tLastRx := rfl
@[simp] theorem clearRxfifo_log : (clearRxfifo s).log = s.log := rfl
@[simp] theorem clearRxfifo_rxfifo : (clearRxfifo s).rxfifo = [] := rfl
@[simp] theorem clearRxfifo_txfifo : (clearRxfifo s).txfifo = s.txfifo := rfl
@[simp] theorem clearRxfifo_lineOut : (clearRxfifo s).lineOut = s.lineOut := rfl
@[simp] theorem clearRxfifo_lineIn : (clearRxfifo s).lineIn = s.lineIn := rfl
@[simp] theorem clearRxfifo_now : (clearRxfifo s).now = s.now := rfl
@[simp] theorem clearRxfifo_shutdown : (clearRxfifo s).shutdown = s.shutdown := rfl
@[simp] theorem clearRxfifo_outputs : (clearRxfifo s).outputs = s.outputs := rfl
@[simp] theorem clearRxfifo_inputs : (clearRxfifo s).inputs = s.inputs := rfl
@[simp] theorem clearRxfifo_pending : (clearRxfifo s).pending = s.pending := rfl
@[simp] theorem clearRxfifo_pollCursor : (clearRxfifo s).pollCursor = s.pollCursor := rfl
@[simp] theorem clearRxfifo_events : (clearRxfifo s).events = s.events := rfl
@[simp] theorem clearRxfifo_response : (clearRxfifo s).response = s.response := rfl
@[simp] theorem clearRxfifo_agenda : (clearRxfifo s).agenda = s.agenda := rfl
@[simp] theorem clearRxfifo_ticks : (clearRxfifo s).ticks = s.ticks := rfl
@[simp] theorem clearRxfifo_ticksUsed : (clearRxfifo s).ticksUsed = s.ticksUsed := rfl
@[simp] theorem clearRxfifo_draws : (clearRxfifo s).draws = s.draws := rfl
@[simp] theorem clearRxfifo_drawsUsed : (clearRxfifo s).drawsUsed = s.drawsUsed := rfl

@[simp] theorem respond_params (r : Result) : (respond r s).params = s.params := rfl
@[simp] theorem respond_rxbuf (r : Result) : (respond r s).rxbuf = s.rxbuf := rfl
@[simp] theorem respond_rxState (r : Result) : (respond r s).rxState = s.rxState := rfl
@[simp] theorem respond_dstat (r : Result) : (respond r s).dstat = s.dstat := rfl
@[simp] theorem respond_cntMalformed (r : Result) : (respond r s).cntMalformed = s.cntMalformed := rfl
@[simp] theorem respond_err (r : Result) : (respond r s).err = s.err := rfl
@[simp] theorem respond_linkOpen (r : Result) : (respond r s).linkOpen = s.linkOpen := rfl
@[simp] theorem respond_linkCfg (r : Result) : (respond r s).linkCfg = s.linkCfg := rfl
@[simp] theorem respond_tLastRx (r : Result) : (respond r s).tLastRx = s.tLastRx := rfl
@[simp] theorem respond_log (r : Result) : (respond r s).log = s.log := rfl
@[simp] theorem respond_rxfifo (r : Result) : (respond r s).rxfifo = s.rxfifo := rfl
@[simp] theorem respond_txfifo (r : Result) : (respond r s).txfifo = s.txfifo := rfl
@[simp] theorem respond_lineOut (r : Result) : (respond r s).lineOut = s.lineOut := rfl
@[simp] theorem respond_lineIn (r : Result) : (respond r s).lineIn = s.lineIn := rfl
@[simp] theorem respond_now (r : Result) : (respond r s).now = s.now := rfl
@[simp] theorem respond_shutdown (r : Result) : (respond r s).shutdown = s.shutdown := rfl
@[simp] theorem respond_outputs (r : Result) : (respond r s).outputs = s.outputs := rfl
@[simp] theorem respond_inputs (r : Result) : (respond r s).inputs = s.inputs := rfl
@[simp] theorem respond_pending (r : Result) : (respond r s).pending = s.pending := rfl
@[simp] theorem respond_pollCursor (r : Result) : (respond r s).pollCursor = s.pollCursor := rfl
@[simp] theorem respond_events (r : Result) : (respond r s).events = s.events := rfl
@[simp] theorem respond_response (r : Result) : (respond r s).response = some { result := r, status := s.status } := rfl
@[simp] theorem respond_agenda (r : Result) : (respond r s).agenda = s.agenda := rfl
@[simp] theorem respond_ticks (r : Result) : (respond r s).ticks = s.ticks := rfl
@[simp] theorem respond_ticksUsed (r : Result) : (respond r s).ticksUsed = s.ticksUsed := rfl
@[simp] theorem respond_draws (r : Result) : (respond r s).draws = s.draws := rfl
@[simp] theorem respond_drawsUsed (r : Result) : (respond r s).drawsUsed = s.drawsUsed := rfl

@[simp] theorem appendLog_params (l : LogLevel) (e : ErrorKind) : (appendLog l e s).params = s.params := rfl
@[simp] theorem appendLog_rxbuf (l : LogLevel) (e : ErrorKind) : (appendLog l e s).rxbuf = s.rxbuf := rfl
@[simp] theorem appendLog_rxState (l : LogLevel) (e : ErrorKind) : (appendLog l e s).rxState = s.rxState := rfl
@[simp] theorem appendLog_dstat (l : LogLevel) (e : ErrorKind) : (appendLog l e s).dstat = s.dstat := rfl
@[simp] theorem appendLog_cntMalformed (l : LogLevel) (e : ErrorKind) : (appendLog l e s).cntMalformed = s.cntMalformed := rfl
@[simp] theorem appendLog_err (l : LogLevel) (e : ErrorKind) : (appendLog l e s).err = s.err := rfl
@[simp] theorem appendLog_linkOpen (l : LogLevel) (e : ErrorKind) : (appendLog l e s).linkOpen = s.linkOpen := rfl
@[simp] theorem appendLog_linkCfg (l : LogLevel) (e : ErrorKind) : (appendLog l e s).linkCfg = s.linkCfg := rfl
@[simp] theorem appendLog_tLastRx (l : LogLevel) (e : ErrorKind) : (appendLog l e s).tLastRx = s.tLastRx := rfl
@[simp] theorem appendLog_log (l : LogLevel) (e : ErrorKind) : (appendLog l e s).log = s.log ++ [{ level := l, event := e }] := rfl
@[simp] theorem appendLog_rxfifo (l : LogLevel) (e : ErrorKind) : (appendLog l e s).rxfifo = s.rxfifo := rfl
@[simp] theorem appendLog_txfifo (l : LogLevel) (e : ErrorKind) : (appendLog l e s).txfifo = s.txfifo := rfl
@[simp] theorem appendLog_lineOut (l : LogLevel) (e : ErrorKind) : (appendLog l e s).lineOut = s.lineOut := rfl
@[simp] theorem appendLog_lineIn (l : LogLevel) (e : ErrorKind) : (appendLog l e s).lineIn = s.lineIn := rfl
@[simp] theorem appendLog_now (l : LogLevel) (e : ErrorKind) : (appendLog l e s).now = s.now := rfl
@[simp] theorem appendLog_shutdown (l : LogLevel) (e : ErrorKind) : (appendLog l e s).shutdown = s.shutdown := rfl
@[simp] theorem appendLog_outputs (l : LogLevel) (e : ErrorKind) : (appendLog l e s).outputs = s.outputs := rfl
@[simp] theorem appendLog_inputs (l : LogLevel) (e : ErrorKind) : (appendLog l e s).inputs = s.inputs := rfl
@[simp] theorem appendLog_pending (l : LogLevel) (e : ErrorKind) : (appendLog l e s).pending = s.pending := rfl
@[simp] theorem appendLog_pollCursor (l : LogLevel) (e : ErrorKind) : (appendLog l e s).pollCursor = s.pollCursor := rfl
@[simp] theorem appendLog_events (l : LogLevel) (e : ErrorKind) : (appendLog l e s).events = s.events := rfl
@[simp] theorem appendLog_response (l : LogLevel) (e : ErrorKind) : (appendLog l e s).response = s.response := rfl
@[simp] theorem appendLog_agenda (l : LogLevel) (e : ErrorKind) : (appendLog l e s).agenda = s.agenda := rfl
@[simp] theorem appendLog_ticks (l : LogLevel) (e : ErrorKind) : (appendLog l e s).ticks = s.ticks := rfl
@[simp] theorem appendLog_ticksUsed (l : LogLevel) (e : ErrorKind) : (appendLog l e s).ticksUsed = s.ticksUsed := rfl
@[simp] theorem appendLog_draws (l : LogLevel) (e : ErrorKind) : (appendLog l e s).draws = s.draws := rfl
@[simp] theorem appendLog_drawsUsed (l : LogLevel) (e : ErrorKind) : (appendLog l e s).drawsUsed = s.drawsUsed := rfl

@[simp] theorem countMalformed_params : (countMalformed s).params = s.params := rfl
@[simp] theorem countMalformed_rxbuf : (countMalformed s).rxbuf = s.rxbuf := rfl
@[simp] theorem countMalformed_rxState : (countMalformed s).rxState = s.rxState := rfl
@[simp] theorem countMalformed_dstat : (countMalformed s).dstat = s.dstat := rfl
@[simp] theorem countMalformed_cntMalformed : (countMalformed s).cntMalformed = s.cntMalformed + 1 := rfl
@[simp] theorem countMalformed_err : (countMalformed s).err = s.err := rfl
@[simp] theorem countMalformed_linkOpen : (countMalformed s).linkOpen = s.linkOpen := rfl
@[simp] theorem countMalformed_linkCfg : (countMalformed s).linkCfg = s.linkCfg := rfl
@[simp] theorem countMalformed_tLastRx : (countMalformed s).tLastRx = s.tLastRx := rfl
@[simp] theorem countMalformed_log : (countMalformed s).log = s.log := rfl
@[simp] theorem countMalformed_rxfifo : (countMalformed s).rxfifo = s.rxfifo := rfl
@[simp] theorem countMalformed_txfifo : (countMalformed s).txfifo = s.txfifo := rfl
@[simp] theorem countMalformed_lineOut : (countMalformed s).lineOut = s.lineOut := rfl
@[simp] theorem countMalformed_lineIn : (countMalformed s).lineIn = s.lineIn := rfl
@[simp] theorem countMalformed_now : (countMalformed s).now = s.now := rfl
@[simp] theorem countMalformed_shutdown : (countMalformed s).shutdown = s.shutdown := rfl
@[simp] theorem countMalformed_outputs : (countMalformed s).outputs = s.outputs := rfl
@[simp] theorem countMalformed_inputs : (countMalformed s).inputs = s.inputs := rfl
@[simp] theorem countMalformed_pending : (countMalformed s).pending = s.pending := rfl
@[simp] theorem countMalformed_pollCursor : (countMalformed s).pollCursor = s.pollCursor := rfl
@[simp] theorem countMalformed_events : (countMalformed s).events = s.events := rfl
@[simp] theorem countMalformed_response : (countMalformed s).response = s.response := rfl
@[simp] theorem countMalformed_agenda : (countMalformed s).agenda = s.agenda := rfl
@[simp] theorem countMalformed_ticks : (countMalformed s).ticks = s.ticks := rfl
@[simp] theorem countMalformed_ticksUsed : (countMalformed s).ticksUsed = s.ticksUsed := rfl
@[simp] theorem countMalformed_draws : (countMalformed s).draws = s.draws := rfl
@[simp] theorem countMalformed_drawsUsed : (countMalformed s).drawsUsed = s.drawsUsed := rfl

@[simp] theorem closeLink_params : (closeLink s).params = s.params := rfl
@[simp] theorem closeLink_rxbuf : (closeLink s).rxbuf = s.rxbuf := rfl
@[simp] theorem closeLink_rxState : (closeLink s).rxState = s.rxState := rfl
@[simp] theorem closeLink_dstat : (closeLink s).dstat = s.dstat := rfl
@[simp] theorem closeLink_cntMalformed : (closeLink s).cntMalformed = s.cntMalformed := rfl
@[simp] theorem closeLink_err : (closeLink s).err = s.err := rfl
@[simp] theorem closeLink_linkOpen : (closeLink s).linkOpen = false := rfl
@[simp] theorem closeLink_linkCfg : (closeLink s).linkCfg = s.linkCfg := rfl
@[simp] theorem closeLink_tLastRx : (closeLink s).tLastRx = s.tLastRx := rfl
@[simp] theorem closeLink_log : (closeLink s).log = s.log := rfl
@[simp] theorem closeLink_rxfifo : (closeLink s).rxfifo = [] := rfl
@[simp] theorem closeLink_txfifo : (closeLink s).txfifo = [] := rfl
@[simp] theorem closeLink_lineOut : (closeLink s).lineOut = s.lineOut := rfl
@[simp] theorem closeLink_lineIn : (closeLink s).lineIn = s.lineIn := rfl
@[simp] theorem closeLink_now : (closeLink s).now = s.now := rfl
@[simp] theorem closeLink_shutdown : (closeLink s).shutdown = s.shutdown := rfl
@[simp] theorem closeLink_outputs : (closeLink s).outputs = s.outputs := rfl
@[simp] theorem closeLink_inputs : (closeLink s).inputs = s.inputs := rfl
@[simp] theorem closeLink_pending : (closeLink s).pending = s.pending := rfl
@[simp] theorem closeLink_pollCursor : (closeLink s).pollCursor = s.pollCursor := rfl
@[simp] theorem closeLink_events : (closeLink s).events = s.events := rfl
@[simp] theorem closeLink_response : (closeLink s).response = s.response := rfl
@[simp] theorem closeLink_agenda : (closeLink s).agenda = s.agenda := rfl
@[simp] theorem closeLink_ticks : (closeLink s).ticks = s.ticks := rfl
@[simp] theorem closeLink_ticksUsed : (closeLink s).ticksUsed = s.ticksUsed := rfl
@[simp] theorem closeLink_draws : (closeLink s).draws = s.draws := rfl
@[simp] theorem closeLink_drawsUsed : (closeLink s).drawsUsed = s.drawsUsed := rfl

@[simp] theorem fatalEntry_params (c : FatalCause) : (fatalEntry c s).params = s.params := rfl
@[simp] theorem fatalEntry_rxbuf (c : FatalCause) : (fatalEntry c s).rxbuf = s.rxbuf := rfl
@[simp] theorem fatalEntry_rxState (c : FatalCause) : (fatalEntry c s).rxState = .halted := rfl
@[simp] theorem fatalEntry_dstat (c : FatalCause) : (fatalEntry c s).dstat = s.dstat := rfl
@[simp] theorem fatalEntry_cntMalformed (c : FatalCause) : (fatalEntry c s).cntMalformed = s.cntMalformed := rfl
@[simp] theorem fatalEntry_err (c : FatalCause) : (fatalEntry c s).err = latchErr s.err c.register := rfl
@[simp] theorem fatalEntry_linkOpen (c : FatalCause) : (fatalEntry c s).linkOpen = false := rfl
@[simp] theorem fatalEntry_linkCfg (c : FatalCause) : (fatalEntry c s).linkCfg = s.linkCfg := rfl
@[simp] theorem fatalEntry_tLastRx (c : FatalCause) : (fatalEntry c s).tLastRx = s.tLastRx := rfl
@[simp] theorem fatalEntry_log (c : FatalCause) : (fatalEntry c s).log = s.log ++ [{ level := .error, event := c.kind }] := rfl
@[simp] theorem fatalEntry_rxfifo (c : FatalCause) : (fatalEntry c s).rxfifo = [] := rfl
@[simp] theorem fatalEntry_txfifo (c : FatalCause) : (fatalEntry c s).txfifo = [] := rfl
@[simp] theorem fatalEntry_lineOut (c : FatalCause) : (fatalEntry c s).lineOut = s.lineOut := rfl
@[simp] theorem fatalEntry_lineIn (c : FatalCause) : (fatalEntry c s).lineIn = s.lineIn := rfl
@[simp] theorem fatalEntry_now (c : FatalCause) : (fatalEntry c s).now = s.now := rfl
@[simp] theorem fatalEntry_shutdown (c : FatalCause) : (fatalEntry c s).shutdown = s.shutdown := rfl
@[simp] theorem fatalEntry_outputs (c : FatalCause) : (fatalEntry c s).outputs = s.outputs := rfl
@[simp] theorem fatalEntry_inputs (c : FatalCause) : (fatalEntry c s).inputs = s.inputs := rfl
@[simp] theorem fatalEntry_pending (c : FatalCause) : (fatalEntry c s).pending = s.pending := rfl
@[simp] theorem fatalEntry_pollCursor (c : FatalCause) : (fatalEntry c s).pollCursor = s.pollCursor := rfl
@[simp] theorem fatalEntry_events (c : FatalCause) : (fatalEntry c s).events = s.events := rfl
@[simp] theorem fatalEntry_response (c : FatalCause) : (fatalEntry c s).response = s.response := rfl
@[simp] theorem fatalEntry_agenda (c : FatalCause) : (fatalEntry c s).agenda = s.agenda := rfl
@[simp] theorem fatalEntry_ticks (c : FatalCause) : (fatalEntry c s).ticks = s.ticks := rfl
@[simp] theorem fatalEntry_ticksUsed (c : FatalCause) : (fatalEntry c s).ticksUsed = s.ticksUsed := rfl
@[simp] theorem fatalEntry_draws (c : FatalCause) : (fatalEntry c s).draws = s.draws := rfl
@[simp] theorem fatalEntry_drawsUsed (c : FatalCause) : (fatalEntry c s).drawsUsed = s.drawsUsed := rfl

@[simp] theorem enterShutdown_params : (enterShutdown s).params = s.params := rfl
@[simp] theorem enterShutdown_rxbuf : (enterShutdown s).rxbuf = s.rxbuf := rfl
@[simp] theorem enterShutdown_rxState : (enterShutdown s).rxState = .halted := rfl
@[simp] theorem enterShutdown_dstat : (enterShutdown s).dstat = s.dstat := rfl
@[simp] theorem enterShutdown_cntMalformed : (enterShutdown s).cntMalformed = s.cntMalformed := rfl
@[simp] theorem enterShutdown_err : (enterShutdown s).err = .shutdown := rfl
@[simp] theorem enterShutdown_linkOpen : (enterShutdown s).linkOpen = false := rfl
@[simp] theorem enterShutdown_linkCfg : (enterShutdown s).linkCfg = s.linkCfg := rfl
@[simp] theorem enterShutdown_tLastRx : (enterShutdown s).tLastRx = s.tLastRx := rfl
@[simp] theorem enterShutdown_log : (enterShutdown s).log = s.log := rfl
@[simp] theorem enterShutdown_rxfifo : (enterShutdown s).rxfifo = [] := rfl
@[simp] theorem enterShutdown_txfifo : (enterShutdown s).txfifo = [] := rfl
@[simp] theorem enterShutdown_lineOut : (enterShutdown s).lineOut = s.lineOut := rfl
@[simp] theorem enterShutdown_lineIn : (enterShutdown s).lineIn = s.lineIn := rfl
@[simp] theorem enterShutdown_now : (enterShutdown s).now = s.now := rfl
@[simp] theorem enterShutdown_shutdown : (enterShutdown s).shutdown = s.shutdown := rfl
@[simp] theorem enterShutdown_outputs : (enterShutdown s).outputs = s.outputs := rfl
@[simp] theorem enterShutdown_inputs : (enterShutdown s).inputs = s.inputs := rfl
@[simp] theorem enterShutdown_pending : (enterShutdown s).pending = s.pending := rfl
@[simp] theorem enterShutdown_pollCursor : (enterShutdown s).pollCursor = s.pollCursor := rfl
@[simp] theorem enterShutdown_events : (enterShutdown s).events = s.events := rfl
@[simp] theorem enterShutdown_response : (enterShutdown s).response = s.response := rfl
@[simp] theorem enterShutdown_agenda : (enterShutdown s).agenda = s.agenda := rfl
@[simp] theorem enterShutdown_ticks : (enterShutdown s).ticks = s.ticks := rfl
@[simp] theorem enterShutdown_ticksUsed : (enterShutdown s).ticksUsed = s.ticksUsed := rfl
@[simp] theorem enterShutdown_draws : (enterShutdown s).draws = s.draws := rfl
@[simp] theorem enterShutdown_drawsUsed : (enterShutdown s).drawsUsed = s.drawsUsed := rfl

@[simp] theorem lineWrite_params (b : Bytes) : (lineWrite b s).params = s.params := rfl
@[simp] theorem lineWrite_rxbuf (b : Bytes) : (lineWrite b s).rxbuf = s.rxbuf := rfl
@[simp] theorem lineWrite_rxState (b : Bytes) : (lineWrite b s).rxState = s.rxState := rfl
@[simp] theorem lineWrite_dstat (b : Bytes) : (lineWrite b s).dstat = s.dstat := rfl
@[simp] theorem lineWrite_cntMalformed (b : Bytes) : (lineWrite b s).cntMalformed = s.cntMalformed := rfl
@[simp] theorem lineWrite_err (b : Bytes) : (lineWrite b s).err = s.err := rfl
@[simp] theorem lineWrite_linkOpen (b : Bytes) : (lineWrite b s).linkOpen = s.linkOpen := rfl
@[simp] theorem lineWrite_linkCfg (b : Bytes) : (lineWrite b s).linkCfg = s.linkCfg := rfl
@[simp] theorem lineWrite_tLastRx (b : Bytes) : (lineWrite b s).tLastRx = s.tLastRx := rfl
@[simp] theorem lineWrite_log (b : Bytes) : (lineWrite b s).log = s.log := rfl
@[simp] theorem lineWrite_rxfifo (b : Bytes) : (lineWrite b s).rxfifo = s.rxfifo := rfl
@[simp] theorem lineWrite_txfifo (b : Bytes) : (lineWrite b s).txfifo = s.txfifo ++ b := rfl
@[simp] theorem lineWrite_lineOut (b : Bytes) : (lineWrite b s).lineOut = s.lineOut := rfl
@[simp] theorem lineWrite_lineIn (b : Bytes) : (lineWrite b s).lineIn = s.lineIn := rfl
@[simp] theorem lineWrite_now (b : Bytes) : (lineWrite b s).now = s.now := rfl
@[simp] theorem lineWrite_shutdown (b : Bytes) : (lineWrite b s).shutdown = s.shutdown := rfl
@[simp] theorem lineWrite_outputs (b : Bytes) : (lineWrite b s).outputs = s.outputs := rfl
@[simp] theorem lineWrite_inputs (b : Bytes) : (lineWrite b s).inputs = s.inputs := rfl
@[simp] theorem lineWrite_pending (b : Bytes) : (lineWrite b s).pending = s.pending := rfl
@[simp] theorem lineWrite_pollCursor (b : Bytes) : (lineWrite b s).pollCursor = s.pollCursor := rfl
@[simp] theorem lineWrite_events (b : Bytes) : (lineWrite b s).events = s.events := rfl
@[simp] theorem lineWrite_response (b : Bytes) : (lineWrite b s).response = s.response := rfl
@[simp] theorem lineWrite_agenda (b : Bytes) : (lineWrite b s).agenda = s.agenda := rfl
@[simp] theorem lineWrite_ticks (b : Bytes) : (lineWrite b s).ticks = s.ticks := rfl
@[simp] theorem lineWrite_ticksUsed (b : Bytes) : (lineWrite b s).ticksUsed = s.ticksUsed := rfl
@[simp] theorem lineWrite_draws (b : Bytes) : (lineWrite b s).draws = s.draws := rfl
@[simp] theorem lineWrite_drawsUsed (b : Bytes) : (lineWrite b s).drawsUsed = s.drawsUsed := rfl

@[simp] theorem lineFlush_params : (lineFlush s).params = s.params := rfl
@[simp] theorem lineFlush_rxbuf : (lineFlush s).rxbuf = s.rxbuf := rfl
@[simp] theorem lineFlush_rxState : (lineFlush s).rxState = s.rxState := rfl
@[simp] theorem lineFlush_dstat : (lineFlush s).dstat = s.dstat := rfl
@[simp] theorem lineFlush_cntMalformed : (lineFlush s).cntMalformed = s.cntMalformed := rfl
@[simp] theorem lineFlush_err : (lineFlush s).err = s.err := rfl
@[simp] theorem lineFlush_linkOpen : (lineFlush s).linkOpen = s.linkOpen := rfl
@[simp] theorem lineFlush_linkCfg : (lineFlush s).linkCfg = s.linkCfg := rfl
@[simp] theorem lineFlush_tLastRx : (lineFlush s).tLastRx = s.tLastRx := rfl
@[simp] theorem lineFlush_log : (lineFlush s).log = s.log := rfl
@[simp] theorem lineFlush_rxfifo : (lineFlush s).rxfifo = s.rxfifo := rfl
@[simp] theorem lineFlush_txfifo : (lineFlush s).txfifo = [] := rfl
@[simp] theorem lineFlush_lineOut : (lineFlush s).lineOut = s.lineOut ++ s.txfifo := rfl
@[simp] theorem lineFlush_lineIn : (lineFlush s).lineIn = s.lineIn := rfl
@[simp] theorem lineFlush_now : (lineFlush s).now = s.now := rfl
@[simp] theorem lineFlush_shutdown : (lineFlush s).shutdown = s.shutdown := rfl
@[simp] theorem lineFlush_outputs : (lineFlush s).outputs = s.outputs := rfl
@[simp] theorem lineFlush_inputs : (lineFlush s).inputs = s.inputs := rfl
@[simp] theorem lineFlush_pending : (lineFlush s).pending = s.pending := rfl
@[simp] theorem lineFlush_pollCursor : (lineFlush s).pollCursor = s.pollCursor := rfl
@[simp] theorem lineFlush_events : (lineFlush s).events = s.events := rfl
@[simp] theorem lineFlush_response : (lineFlush s).response = s.response := rfl
@[simp] theorem lineFlush_agenda : (lineFlush s).agenda = s.agenda := rfl
@[simp] theorem lineFlush_ticks : (lineFlush s).ticks = s.ticks := rfl
@[simp] theorem lineFlush_ticksUsed : (lineFlush s).ticksUsed = s.ticksUsed := rfl
@[simp] theorem lineFlush_draws : (lineFlush s).draws = s.draws := rfl
@[simp] theorem lineFlush_drawsUsed : (lineFlush s).drawsUsed = s.drawsUsed := rfl

@[simp] theorem deliver_params : (deliver s).params = s.params := rfl
@[simp] theorem deliver_rxbuf : (deliver s).rxbuf = s.rxbuf := rfl
@[simp] theorem deliver_rxState : (deliver s).rxState = s.rxState := rfl
@[simp] theorem deliver_dstat : (deliver s).dstat = s.dstat := rfl
@[simp] theorem deliver_cntMalformed : (deliver s).cntMalformed = s.cntMalformed := rfl
@[simp] theorem deliver_err : (deliver s).err = s.err := rfl
@[simp] theorem deliver_linkOpen : (deliver s).linkOpen = s.linkOpen := rfl
@[simp] theorem deliver_linkCfg : (deliver s).linkCfg = s.linkCfg := rfl
@[simp] theorem deliver_tLastRx : (deliver s).tLastRx = s.tLastRx := rfl
@[simp] theorem deliver_log : (deliver s).log = s.log := rfl
@[simp] theorem deliver_rxfifo : (deliver s).rxfifo = if s.linkOpen then s.rxfifo ++ s.due.map Arrival.byte else s.rxfifo := rfl
@[simp] theorem deliver_txfifo : (deliver s).txfifo = s.txfifo := rfl
@[simp] theorem deliver_lineOut : (deliver s).lineOut = s.lineOut := rfl
@[simp] theorem deliver_lineIn : (deliver s).lineIn = s.lineIn.dropWhile (s.there s.now) := rfl
@[simp] theorem deliver_now : (deliver s).now = s.now := rfl
@[simp] theorem deliver_shutdown : (deliver s).shutdown = s.shutdown := rfl
@[simp] theorem deliver_outputs : (deliver s).outputs = s.outputs := rfl
@[simp] theorem deliver_inputs : (deliver s).inputs = s.inputs := rfl
@[simp] theorem deliver_pending : (deliver s).pending = s.pending := rfl
@[simp] theorem deliver_pollCursor : (deliver s).pollCursor = s.pollCursor := rfl
@[simp] theorem deliver_events : (deliver s).events = s.events := rfl
@[simp] theorem deliver_response : (deliver s).response = s.response := rfl
@[simp] theorem deliver_agenda : (deliver s).agenda = s.agenda := rfl
@[simp] theorem deliver_ticks : (deliver s).ticks = s.ticks := rfl
@[simp] theorem deliver_ticksUsed : (deliver s).ticksUsed = s.ticksUsed := rfl
@[simp] theorem deliver_draws : (deliver s).draws = s.draws := rfl
@[simp] theorem deliver_drawsUsed : (deliver s).drawsUsed = s.drawsUsed := rfl

@[simp] theorem beginStep_params : (beginStep s).params = s.params := rfl
@[simp] theorem beginStep_rxbuf : (beginStep s).rxbuf = s.rxbuf := rfl
@[simp] theorem beginStep_rxState : (beginStep s).rxState = s.rxState := rfl
@[simp] theorem beginStep_dstat : (beginStep s).dstat = s.dstat := rfl
@[simp] theorem beginStep_cntMalformed : (beginStep s).cntMalformed = s.cntMalformed := rfl
@[simp] theorem beginStep_err : (beginStep s).err = s.err := rfl
@[simp] theorem beginStep_linkOpen : (beginStep s).linkOpen = s.linkOpen := rfl
@[simp] theorem beginStep_linkCfg : (beginStep s).linkCfg = s.linkCfg := rfl
@[simp] theorem beginStep_tLastRx : (beginStep s).tLastRx = s.tLastRx := rfl
@[simp] theorem beginStep_log : (beginStep s).log = s.log := rfl
@[simp] theorem beginStep_txfifo : (beginStep s).txfifo = s.txfifo := rfl
@[simp] theorem beginStep_lineOut : (beginStep s).lineOut = s.lineOut := rfl
@[simp] theorem beginStep_now : (beginStep s).now = max s.now s.currentTick.reading := rfl
@[simp] theorem beginStep_shutdown : (beginStep s).shutdown = (s.shutdown || s.currentTick.shutdown) := rfl
@[simp] theorem beginStep_outputs : (beginStep s).outputs = s.outputs := rfl
@[simp] theorem beginStep_inputs : (beginStep s).inputs = s.inputs := rfl
@[simp] theorem beginStep_pending : (beginStep s).pending = s.currentTick.submitted.or s.pending := rfl
@[simp] theorem beginStep_pollCursor : (beginStep s).pollCursor = s.pollCursor := rfl
@[simp] theorem beginStep_events : (beginStep s).events = s.events := rfl
@[simp] theorem beginStep_response : (beginStep s).response = s.response := rfl
@[simp] theorem beginStep_agenda : (beginStep s).agenda = s.agenda := rfl
@[simp] theorem beginStep_ticks : (beginStep s).ticks = s.ticks.tail := rfl
@[simp] theorem beginStep_ticksUsed : (beginStep s).ticksUsed = s.ticksUsed + 1 := rfl
@[simp] theorem beginStep_draws : (beginStep s).draws = s.draws := rfl
@[simp] theorem beginStep_drawsUsed : (beginStep s).drawsUsed = s.drawsUsed := rfl

@[simp] theorem setAgenda_params (rest : List HostAction) : (setAgenda rest s).params = s.params := rfl
@[simp] theorem setAgenda_rxbuf (rest : List HostAction) : (setAgenda rest s).rxbuf = s.rxbuf := rfl
@[simp] theorem setAgenda_rxState (rest : List HostAction) : (setAgenda rest s).rxState = s.rxState := rfl
@[simp] theorem setAgenda_dstat (rest : List HostAction) : (setAgenda rest s).dstat = s.dstat := rfl
@[simp] theorem setAgenda_cntMalformed (rest : List HostAction) : (setAgenda rest s).cntMalformed = s.cntMalformed := rfl
@[simp] theorem setAgenda_err (rest : List HostAction) : (setAgenda rest s).err = s.err := rfl
@[simp] theorem setAgenda_linkOpen (rest : List HostAction) : (setAgenda rest s).linkOpen = s.linkOpen := rfl
@[simp] theorem setAgenda_linkCfg (rest : List HostAction) : (setAgenda rest s).linkCfg = s.linkCfg := rfl
@[simp] theorem setAgenda_tLastRx (rest : List HostAction) : (setAgenda rest s).tLastRx = s.tLastRx := rfl
@[simp] theorem setAgenda_log (rest : List HostAction) : (setAgenda rest s).log = s.log := rfl
@[simp] theorem setAgenda_rxfifo (rest : List HostAction) : (setAgenda rest s).rxfifo = s.rxfifo := rfl
@[simp] theorem setAgenda_txfifo (rest : List HostAction) : (setAgenda rest s).txfifo = s.txfifo := rfl
@[simp] theorem setAgenda_lineOut (rest : List HostAction) : (setAgenda rest s).lineOut = s.lineOut := rfl
@[simp] theorem setAgenda_lineIn (rest : List HostAction) : (setAgenda rest s).lineIn = s.lineIn := rfl
@[simp] theorem setAgenda_now (rest : List HostAction) : (setAgenda rest s).now = s.now := rfl
@[simp] theorem setAgenda_shutdown (rest : List HostAction) : (setAgenda rest s).shutdown = s.shutdown := rfl
@[simp] theorem setAgenda_outputs (rest : List HostAction) : (setAgenda rest s).outputs = s.outputs := rfl
@[simp] theorem setAgenda_inputs (rest : List HostAction) : (setAgenda rest s).inputs = s.inputs := rfl
@[simp] theorem setAgenda_pending (rest : List HostAction) : (setAgenda rest s).pending = s.pending := rfl
@[simp] theorem setAgenda_pollCursor (rest : List HostAction) : (setAgenda rest s).pollCursor = s.pollCursor := rfl
@[simp] theorem setAgenda_events (rest : List HostAction) : (setAgenda rest s).events = s.events := rfl
@[simp] theorem setAgenda_response (rest : List HostAction) : (setAgenda rest s).response = s.response := rfl
@[simp] theorem setAgenda_agenda (rest : List HostAction) : (setAgenda rest s).agenda = rest := rfl
@[simp] theorem setAgenda_ticks (rest : List HostAction) : (setAgenda rest s).ticks = s.ticks := rfl
@[simp] theorem setAgenda_ticksUsed (rest : List HostAction) : (setAgenda rest s).ticksUsed = s.ticksUsed := rfl
@[simp] theorem setAgenda_draws (rest : List HostAction) : (setAgenda rest s).draws = s.draws := rfl
@[simp] theorem setAgenda_drawsUsed (rest : List HostAction) : (setAgenda rest s).drawsUsed = s.drawsUsed := rfl

@[simp] theorem consume_params (r : DecodeResult) : (consume r s).params = s.params := rfl
@[simp] theorem consume_rxbuf (r : DecodeResult) : (consume r s).rxbuf = s.rxbuf.drop r.consumed := rfl
@[simp] theorem consume_rxState (r : DecodeResult) : (consume r s).rxState = s.rxState := rfl
@[simp] theorem consume_dstat (r : DecodeResult) : (consume r s).dstat = .ran r.status := rfl
@[simp] theorem consume_cntMalformed (r : DecodeResult) : (consume r s).cntMalformed = s.cntMalformed := rfl
@[simp] theorem consume_err (r : DecodeResult) : (consume r s).err = s.err := rfl
@[simp] theorem consume_linkOpen (r : DecodeResult) : (consume r s).linkOpen = s.linkOpen := rfl
@[simp] theorem consume_linkCfg (r : DecodeResult) : (consume r s).linkCfg = s.linkCfg := rfl
@[simp] theorem consume_tLastRx (r : DecodeResult) : (consume r s).tLastRx = s.tLastRx := rfl
@[simp] theorem consume_log (r : DecodeResult) : (consume r s).log = s.log := rfl
@[simp] theorem consume_rxfifo (r : DecodeResult) : (consume r s).rxfifo = s.rxfifo := rfl
@[simp] theorem consume_txfifo (r : DecodeResult) : (consume r s).txfifo = s.txfifo := rfl
@[simp] theorem consume_lineOut (r : DecodeResult) : (consume r s).lineOut = s.lineOut := rfl
@[simp] theorem consume_lineIn (r : DecodeResult) : (consume r s).lineIn = s.lineIn := rfl
@[simp] theorem consume_now (r : DecodeResult) : (consume r s).now = s.now := rfl
@[simp] theorem consume_shutdown (r : DecodeResult) : (consume r s).shutdown = s.shutdown := rfl
@[simp] theorem consume_outputs (r : DecodeResult) : (consume r s).outputs = s.outputs := rfl
@[simp] theorem consume_inputs (r : DecodeResult) : (consume r s).inputs = s.inputs := rfl
@[simp] theorem consume_pending (r : DecodeResult) : (consume r s).pending = s.pending := rfl
@[simp] theorem consume_pollCursor (r : DecodeResult) : (consume r s).pollCursor = s.pollCursor := rfl
@[simp] theorem consume_events (r : DecodeResult) : (consume r s).events = s.events := rfl
@[simp] theorem consume_response (r : DecodeResult) : (consume r s).response = s.response := rfl
@[simp] theorem consume_agenda (r : DecodeResult) : (consume r s).agenda = s.agenda := rfl
@[simp] theorem consume_ticks (r : DecodeResult) : (consume r s).ticks = s.ticks := rfl
@[simp] theorem consume_ticksUsed (r : DecodeResult) : (consume r s).ticksUsed = s.ticksUsed := rfl
@[simp] theorem consume_draws (r : DecodeResult) : (consume r s).draws = s.draws := rfl
@[simp] theorem consume_drawsUsed (r : DecodeResult) : (consume r s).drawsUsed = s.drawsUsed := rfl

@[simp] theorem settle_params : (settle s).params = s.params := rfl
@[simp] theorem settle_rxbuf : (settle s).rxbuf = s.rxbuf := rfl
@[simp] theorem settle_rxState : (settle s).rxState = restingState s.rxbuf := rfl
@[simp] theorem settle_dstat : (settle s).dstat = s.dstat := rfl
@[simp] theorem settle_cntMalformed : (settle s).cntMalformed = s.cntMalformed := rfl
@[simp] theorem settle_err : (settle s).err = s.err := rfl
@[simp] theorem settle_linkOpen : (settle s).linkOpen = s.linkOpen := rfl
@[simp] theorem settle_linkCfg : (settle s).linkCfg = s.linkCfg := rfl
@[simp] theorem settle_tLastRx : (settle s).tLastRx = s.tLastRx := rfl
@[simp] theorem settle_log : (settle s).log = s.log := rfl
@[simp] theorem settle_rxfifo : (settle s).rxfifo = s.rxfifo := rfl
@[simp] theorem settle_txfifo : (settle s).txfifo = s.txfifo := rfl
@[simp] theorem settle_lineOut : (settle s).lineOut = s.lineOut := rfl
@[simp] theorem settle_lineIn : (settle s).lineIn = s.lineIn := rfl
@[simp] theorem settle_now : (settle s).now = s.now := rfl
@[simp] theorem settle_shutdown : (settle s).shutdown = s.shutdown := rfl
@[simp] theorem settle_outputs : (settle s).outputs = s.outputs := rfl
@[simp] theorem settle_inputs : (settle s).inputs = s.inputs := rfl
@[simp] theorem settle_pending : (settle s).pending = s.pending := rfl
@[simp] theorem settle_pollCursor : (settle s).pollCursor = s.pollCursor := rfl
@[simp] theorem settle_events : (settle s).events = s.events := rfl
@[simp] theorem settle_response : (settle s).response = s.response := rfl
@[simp] theorem settle_agenda : (settle s).agenda = s.agenda := rfl
@[simp] theorem settle_ticks : (settle s).ticks = s.ticks := rfl
@[simp] theorem settle_ticksUsed : (settle s).ticksUsed = s.ticksUsed := rfl
@[simp] theorem settle_draws : (settle s).draws = s.draws := rfl
@[simp] theorem settle_drawsUsed : (settle s).drawsUsed = s.drawsUsed := rfl

@[simp] theorem setOutputMask_params (m : Nat) (b : Byte) : (setOutputMask m b s).params = s.params := rfl
@[simp] theorem setOutputMask_rxbuf (m : Nat) (b : Byte) : (setOutputMask m b s).rxbuf = s.rxbuf := rfl
@[simp] theorem setOutputMask_rxState (m : Nat) (b : Byte) : (setOutputMask m b s).rxState = s.rxState := rfl
@[simp] theorem setOutputMask_dstat (m : Nat) (b : Byte) : (setOutputMask m b s).dstat = s.dstat := rfl
@[simp] theorem setOutputMask_cntMalformed (m : Nat) (b : Byte) : (setOutputMask m b s).cntMalformed = s.cntMalformed := rfl
@[simp] theorem setOutputMask_err (m : Nat) (b : Byte) : (setOutputMask m b s).err = s.err := rfl
@[simp] theorem setOutputMask_linkOpen (m : Nat) (b : Byte) : (setOutputMask m b s).linkOpen = s.linkOpen := rfl
@[simp] theorem setOutputMask_linkCfg (m : Nat) (b : Byte) : (setOutputMask m b s).linkCfg = s.linkCfg := rfl
@[simp] theorem setOutputMask_tLastRx (m : Nat) (b : Byte) : (setOutputMask m b s).tLastRx = s.tLastRx := rfl
@[simp] theorem setOutputMask_log (m : Nat) (b : Byte) : (setOutputMask m b s).log = s.log := rfl
@[simp] theorem setOutputMask_rxfifo (m : Nat) (b : Byte) : (setOutputMask m b s).rxfifo = s.rxfifo := rfl
@[simp] theorem setOutputMask_txfifo (m : Nat) (b : Byte) : (setOutputMask m b s).txfifo = s.txfifo := rfl
@[simp] theorem setOutputMask_lineOut (m : Nat) (b : Byte) : (setOutputMask m b s).lineOut = s.lineOut := rfl
@[simp] theorem setOutputMask_lineIn (m : Nat) (b : Byte) : (setOutputMask m b s).lineIn = s.lineIn := rfl
@[simp] theorem setOutputMask_now (m : Nat) (b : Byte) : (setOutputMask m b s).now = s.now := rfl
@[simp] theorem setOutputMask_shutdown (m : Nat) (b : Byte) : (setOutputMask m b s).shutdown = s.shutdown := rfl
@[simp] theorem setOutputMask_outputs (m : Nat) (b : Byte) : (setOutputMask m b s).outputs = if m < s.params.outCount then s.outputs.set m b else s.outputs := rfl
@[simp] theorem setOutputMask_inputs (m : Nat) (b : Byte) : (setOutputMask m b s).inputs = s.inputs := rfl
@[simp] theorem setOutputMask_pending (m : Nat) (b : Byte) : (setOutputMask m b s).pending = s.pending := rfl
@[simp] theorem setOutputMask_pollCursor (m : Nat) (b : Byte) : (setOutputMask m b s).pollCursor = s.pollCursor := rfl
@[simp] theorem setOutputMask_events (m : Nat) (b : Byte) : (setOutputMask m b s).events = s.events := rfl
@[simp] theorem setOutputMask_response (m : Nat) (b : Byte) : (setOutputMask m b s).response = s.response := rfl
@[simp] theorem setOutputMask_agenda (m : Nat) (b : Byte) : (setOutputMask m b s).agenda = s.agenda := rfl
@[simp] theorem setOutputMask_ticks (m : Nat) (b : Byte) : (setOutputMask m b s).ticks = s.ticks := rfl
@[simp] theorem setOutputMask_ticksUsed (m : Nat) (b : Byte) : (setOutputMask m b s).ticksUsed = s.ticksUsed := rfl
@[simp] theorem setOutputMask_draws (m : Nat) (b : Byte) : (setOutputMask m b s).draws = s.draws := rfl
@[simp] theorem setOutputMask_drawsUsed (m : Nat) (b : Byte) : (setOutputMask m b s).drawsUsed = s.drawsUsed := rfl

@[simp] theorem setInputMask_params (m : Nat) (b : InputMask) : (setInputMask m b s).params = s.params := rfl
@[simp] theorem setInputMask_rxbuf (m : Nat) (b : InputMask) : (setInputMask m b s).rxbuf = s.rxbuf := rfl
@[simp] theorem setInputMask_rxState (m : Nat) (b : InputMask) : (setInputMask m b s).rxState = s.rxState := rfl
@[simp] theorem setInputMask_dstat (m : Nat) (b : InputMask) : (setInputMask m b s).dstat = s.dstat := rfl
@[simp] theorem setInputMask_cntMalformed (m : Nat) (b : InputMask) : (setInputMask m b s).cntMalformed = s.cntMalformed := rfl
@[simp] theorem setInputMask_err (m : Nat) (b : InputMask) : (setInputMask m b s).err = s.err := rfl
@[simp] theorem setInputMask_linkOpen (m : Nat) (b : InputMask) : (setInputMask m b s).linkOpen = s.linkOpen := rfl
@[simp] theorem setInputMask_linkCfg (m : Nat) (b : InputMask) : (setInputMask m b s).linkCfg = s.linkCfg := rfl
@[simp] theorem setInputMask_tLastRx (m : Nat) (b : InputMask) : (setInputMask m b s).tLastRx = s.tLastRx := rfl
@[simp] theorem setInputMask_log (m : Nat) (b : InputMask) : (setInputMask m b s).log = s.log := rfl
@[simp] theorem setInputMask_rxfifo (m : Nat) (b : InputMask) : (setInputMask m b s).rxfifo = s.rxfifo := rfl
@[simp] theorem setInputMask_txfifo (m : Nat) (b : InputMask) : (setInputMask m b s).txfifo = s.txfifo := rfl
@[simp] theorem setInputMask_lineOut (m : Nat) (b : InputMask) : (setInputMask m b s).lineOut = s.lineOut := rfl
@[simp] theorem setInputMask_lineIn (m : Nat) (b : InputMask) : (setInputMask m b s).lineIn = s.lineIn := rfl
@[simp] theorem setInputMask_now (m : Nat) (b : InputMask) : (setInputMask m b s).now = s.now := rfl
@[simp] theorem setInputMask_shutdown (m : Nat) (b : InputMask) : (setInputMask m b s).shutdown = s.shutdown := rfl
@[simp] theorem setInputMask_outputs (m : Nat) (b : InputMask) : (setInputMask m b s).outputs = s.outputs := rfl
@[simp] theorem setInputMask_inputs (m : Nat) (b : InputMask) : (setInputMask m b s).inputs = if m < s.params.inCount then s.inputs.set m b else s.inputs := rfl
@[simp] theorem setInputMask_pending (m : Nat) (b : InputMask) : (setInputMask m b s).pending = s.pending := rfl
@[simp] theorem setInputMask_pollCursor (m : Nat) (b : InputMask) : (setInputMask m b s).pollCursor = s.pollCursor := rfl
@[simp] theorem setInputMask_events (m : Nat) (b : InputMask) : (setInputMask m b s).events = s.events := rfl
@[simp] theorem setInputMask_response (m : Nat) (b : InputMask) : (setInputMask m b s).response = s.response := rfl
@[simp] theorem setInputMask_agenda (m : Nat) (b : InputMask) : (setInputMask m b s).agenda = s.agenda := rfl
@[simp] theorem setInputMask_ticks (m : Nat) (b : InputMask) : (setInputMask m b s).ticks = s.ticks := rfl
@[simp] theorem setInputMask_ticksUsed (m : Nat) (b : InputMask) : (setInputMask m b s).ticksUsed = s.ticksUsed := rfl
@[simp] theorem setInputMask_draws (m : Nat) (b : InputMask) : (setInputMask m b s).draws = s.draws := rfl
@[simp] theorem setInputMask_drawsUsed (m : Nat) (b : InputMask) : (setInputMask m b s).drawsUsed = s.drawsUsed := rfl

@[simp] theorem emit_params (e : Event) : (emit e s).params = s.params := rfl
@[simp] theorem emit_rxbuf (e : Event) : (emit e s).rxbuf = s.rxbuf := rfl
@[simp] theorem emit_rxState (e : Event) : (emit e s).rxState = s.rxState := rfl
@[simp] theorem emit_dstat (e : Event) : (emit e s).dstat = s.dstat := rfl
@[simp] theorem emit_cntMalformed (e : Event) : (emit e s).cntMalformed = s.cntMalformed := rfl
@[simp] theorem emit_err (e : Event) : (emit e s).err = s.err := rfl
@[simp] theorem emit_linkOpen (e : Event) : (emit e s).linkOpen = s.linkOpen := rfl
@[simp] theorem emit_linkCfg (e : Event) : (emit e s).linkCfg = s.linkCfg := rfl
@[simp] theorem emit_tLastRx (e : Event) : (emit e s).tLastRx = s.tLastRx := rfl
@[simp] theorem emit_log (e : Event) : (emit e s).log = s.log := rfl
@[simp] theorem emit_rxfifo (e : Event) : (emit e s).rxfifo = s.rxfifo := rfl
@[simp] theorem emit_txfifo (e : Event) : (emit e s).txfifo = s.txfifo := rfl
@[simp] theorem emit_lineOut (e : Event) : (emit e s).lineOut = s.lineOut := rfl
@[simp] theorem emit_lineIn (e : Event) : (emit e s).lineIn = s.lineIn := rfl
@[simp] theorem emit_now (e : Event) : (emit e s).now = s.now := rfl
@[simp] theorem emit_shutdown (e : Event) : (emit e s).shutdown = s.shutdown := rfl
@[simp] theorem emit_outputs (e : Event) : (emit e s).outputs = s.outputs := rfl
@[simp] theorem emit_inputs (e : Event) : (emit e s).inputs = s.inputs := rfl
@[simp] theorem emit_pending (e : Event) : (emit e s).pending = s.pending := rfl
@[simp] theorem emit_pollCursor (e : Event) : (emit e s).pollCursor = s.pollCursor := rfl
@[simp] theorem emit_events (e : Event) : (emit e s).events = s.events ++ [e] := rfl
@[simp] theorem emit_response (e : Event) : (emit e s).response = s.response := rfl
@[simp] theorem emit_agenda (e : Event) : (emit e s).agenda = s.agenda := rfl
@[simp] theorem emit_ticks (e : Event) : (emit e s).ticks = s.ticks := rfl
@[simp] theorem emit_ticksUsed (e : Event) : (emit e s).ticksUsed = s.ticksUsed := rfl
@[simp] theorem emit_draws (e : Event) : (emit e s).draws = s.draws := rfl
@[simp] theorem emit_drawsUsed (e : Event) : (emit e s).drawsUsed = s.drawsUsed := rfl

@[simp] theorem enqueue_params (c : Command) : (enqueue c s).params = s.params := rfl
@[simp] theorem enqueue_rxbuf (c : Command) : (enqueue c s).rxbuf = s.rxbuf := rfl
@[simp] theorem enqueue_rxState (c : Command) : (enqueue c s).rxState = s.rxState := rfl
@[simp] theorem enqueue_dstat (c : Command) : (enqueue c s).dstat = s.dstat := rfl
@[simp] theorem enqueue_cntMalformed (c : Command) : (enqueue c s).cntMalformed = s.cntMalformed := rfl
@[simp] theorem enqueue_err (c : Command) : (enqueue c s).err = s.err := rfl
@[simp] theorem enqueue_linkOpen (c : Command) : (enqueue c s).linkOpen = s.linkOpen := rfl
@[simp] theorem enqueue_linkCfg (c : Command) : (enqueue c s).linkCfg = s.linkCfg := rfl
@[simp] theorem enqueue_tLastRx (c : Command) : (enqueue c s).tLastRx = s.tLastRx := rfl
@[simp] theorem enqueue_log (c : Command) : (enqueue c s).log = s.log := rfl
@[simp] theorem enqueue_rxfifo (c : Command) : (enqueue c s).rxfifo = s.rxfifo := rfl
@[simp] theorem enqueue_txfifo (c : Command) : (enqueue c s).txfifo = s.txfifo := rfl
@[simp] theorem enqueue_lineOut (c : Command) : (enqueue c s).lineOut = s.lineOut := rfl
@[simp] theorem enqueue_lineIn (c : Command) : (enqueue c s).lineIn = s.lineIn := rfl
@[simp] theorem enqueue_now (c : Command) : (enqueue c s).now = s.now := rfl
@[simp] theorem enqueue_shutdown (c : Command) : (enqueue c s).shutdown = s.shutdown := rfl
@[simp] theorem enqueue_outputs (c : Command) : (enqueue c s).outputs = s.outputs := rfl
@[simp] theorem enqueue_inputs (c : Command) : (enqueue c s).inputs = s.inputs := rfl
@[simp] theorem enqueue_pending (c : Command) : (enqueue c s).pending = some c := rfl
@[simp] theorem enqueue_pollCursor (c : Command) : (enqueue c s).pollCursor = s.pollCursor := rfl
@[simp] theorem enqueue_events (c : Command) : (enqueue c s).events = s.events := rfl
@[simp] theorem enqueue_response (c : Command) : (enqueue c s).response = s.response := rfl
@[simp] theorem enqueue_agenda (c : Command) : (enqueue c s).agenda = s.agenda := rfl
@[simp] theorem enqueue_ticks (c : Command) : (enqueue c s).ticks = s.ticks := rfl
@[simp] theorem enqueue_ticksUsed (c : Command) : (enqueue c s).ticksUsed = s.ticksUsed := rfl
@[simp] theorem enqueue_draws (c : Command) : (enqueue c s).draws = s.draws := rfl
@[simp] theorem enqueue_drawsUsed (c : Command) : (enqueue c s).drawsUsed = s.drawsUsed := rfl

@[simp] theorem drainSlot_params : (drainSlot s).params = s.params := rfl
@[simp] theorem drainSlot_rxbuf : (drainSlot s).rxbuf = s.rxbuf := rfl
@[simp] theorem drainSlot_rxState : (drainSlot s).rxState = s.rxState := rfl
@[simp] theorem drainSlot_dstat : (drainSlot s).dstat = s.dstat := rfl
@[simp] theorem drainSlot_cntMalformed : (drainSlot s).cntMalformed = s.cntMalformed := rfl
@[simp] theorem drainSlot_err : (drainSlot s).err = s.err := rfl
@[simp] theorem drainSlot_linkOpen : (drainSlot s).linkOpen = s.linkOpen := rfl
@[simp] theorem drainSlot_linkCfg : (drainSlot s).linkCfg = s.linkCfg := rfl
@[simp] theorem drainSlot_tLastRx : (drainSlot s).tLastRx = s.tLastRx := rfl
@[simp] theorem drainSlot_log : (drainSlot s).log = s.log := rfl
@[simp] theorem drainSlot_rxfifo : (drainSlot s).rxfifo = s.rxfifo := rfl
@[simp] theorem drainSlot_txfifo : (drainSlot s).txfifo = s.txfifo := rfl
@[simp] theorem drainSlot_lineOut : (drainSlot s).lineOut = s.lineOut := rfl
@[simp] theorem drainSlot_lineIn : (drainSlot s).lineIn = s.lineIn := rfl
@[simp] theorem drainSlot_now : (drainSlot s).now = s.now := rfl
@[simp] theorem drainSlot_shutdown : (drainSlot s).shutdown = s.shutdown := rfl
@[simp] theorem drainSlot_outputs : (drainSlot s).outputs = s.outputs := rfl
@[simp] theorem drainSlot_inputs : (drainSlot s).inputs = s.inputs := rfl
@[simp] theorem drainSlot_pending : (drainSlot s).pending = none := rfl
@[simp] theorem drainSlot_pollCursor : (drainSlot s).pollCursor = s.pollCursor := rfl
@[simp] theorem drainSlot_events : (drainSlot s).events = s.events := rfl
@[simp] theorem drainSlot_response : (drainSlot s).response = s.response := rfl
@[simp] theorem drainSlot_agenda : (drainSlot s).agenda = s.agenda := rfl
@[simp] theorem drainSlot_ticks : (drainSlot s).ticks = s.ticks := rfl
@[simp] theorem drainSlot_ticksUsed : (drainSlot s).ticksUsed = s.ticksUsed := rfl
@[simp] theorem drainSlot_draws : (drainSlot s).draws = s.draws := rfl
@[simp] theorem drainSlot_drawsUsed : (drainSlot s).drawsUsed = s.drawsUsed := rfl

@[simp] theorem advancePoll_params : (advancePoll s).params = s.params := rfl
@[simp] theorem advancePoll_rxbuf : (advancePoll s).rxbuf = s.rxbuf := rfl
@[simp] theorem advancePoll_rxState : (advancePoll s).rxState = s.rxState := rfl
@[simp] theorem advancePoll_dstat : (advancePoll s).dstat = s.dstat := rfl
@[simp] theorem advancePoll_cntMalformed : (advancePoll s).cntMalformed = s.cntMalformed := rfl
@[simp] theorem advancePoll_err : (advancePoll s).err = s.err := rfl
@[simp] theorem advancePoll_linkOpen : (advancePoll s).linkOpen = s.linkOpen := rfl
@[simp] theorem advancePoll_linkCfg : (advancePoll s).linkCfg = s.linkCfg := rfl
@[simp] theorem advancePoll_tLastRx : (advancePoll s).tLastRx = s.tLastRx := rfl
@[simp] theorem advancePoll_log : (advancePoll s).log = s.log := rfl
@[simp] theorem advancePoll_rxfifo : (advancePoll s).rxfifo = s.rxfifo := rfl
@[simp] theorem advancePoll_txfifo : (advancePoll s).txfifo = s.txfifo := rfl
@[simp] theorem advancePoll_lineOut : (advancePoll s).lineOut = s.lineOut := rfl
@[simp] theorem advancePoll_lineIn : (advancePoll s).lineIn = s.lineIn := rfl
@[simp] theorem advancePoll_now : (advancePoll s).now = s.now := rfl
@[simp] theorem advancePoll_shutdown : (advancePoll s).shutdown = s.shutdown := rfl
@[simp] theorem advancePoll_outputs : (advancePoll s).outputs = s.outputs := rfl
@[simp] theorem advancePoll_inputs : (advancePoll s).inputs = s.inputs := rfl
@[simp] theorem advancePoll_pending : (advancePoll s).pending = s.pending := rfl
@[simp] theorem advancePoll_events : (advancePoll s).events = s.events := rfl
@[simp] theorem advancePoll_response : (advancePoll s).response = s.response := rfl
@[simp] theorem advancePoll_agenda : (advancePoll s).agenda = s.agenda := rfl
@[simp] theorem advancePoll_ticks : (advancePoll s).ticks = s.ticks := rfl
@[simp] theorem advancePoll_ticksUsed : (advancePoll s).ticksUsed = s.ticksUsed := rfl
@[simp] theorem advancePoll_draws : (advancePoll s).draws = s.draws := rfl
@[simp] theorem advancePoll_drawsUsed : (advancePoll s).drawsUsed = s.drawsUsed := rfl

@[simp] theorem acquireLink_params (a : Address) (b : Nat) : (acquireLink a b s).params = s.params := rfl
@[simp] theorem acquireLink_rxbuf (a : Address) (b : Nat) : (acquireLink a b s).rxbuf = s.rxbuf := rfl
@[simp] theorem acquireLink_rxState (a : Address) (b : Nat) : (acquireLink a b s).rxState = s.rxState := rfl
@[simp] theorem acquireLink_dstat (a : Address) (b : Nat) : (acquireLink a b s).dstat = s.dstat := rfl
@[simp] theorem acquireLink_cntMalformed (a : Address) (b : Nat) : (acquireLink a b s).cntMalformed = s.cntMalformed := rfl
@[simp] theorem acquireLink_err (a : Address) (b : Nat) : (acquireLink a b s).err = s.err := rfl
@[simp] theorem acquireLink_linkOpen (a : Address) (b : Nat) : (acquireLink a b s).linkOpen = true := rfl
@[simp] theorem acquireLink_linkCfg (a : Address) (b : Nat) : (acquireLink a b s).linkCfg = { address := a, baudRate := b } := rfl
@[simp] theorem acquireLink_tLastRx (a : Address) (b : Nat) : (acquireLink a b s).tLastRx = s.tLastRx := rfl
@[simp] theorem acquireLink_log (a : Address) (b : Nat) : (acquireLink a b s).log = s.log := rfl
@[simp] theorem acquireLink_rxfifo (a : Address) (b : Nat) : (acquireLink a b s).rxfifo = [] := rfl
@[simp] theorem acquireLink_txfifo (a : Address) (b : Nat) : (acquireLink a b s).txfifo = [] := rfl
@[simp] theorem acquireLink_lineOut (a : Address) (b : Nat) : (acquireLink a b s).lineOut = s.lineOut := rfl
@[simp] theorem acquireLink_lineIn (a : Address) (b : Nat) : (acquireLink a b s).lineIn = s.lineIn := rfl
@[simp] theorem acquireLink_now (a : Address) (b : Nat) : (acquireLink a b s).now = s.now := rfl
@[simp] theorem acquireLink_shutdown (a : Address) (b : Nat) : (acquireLink a b s).shutdown = s.shutdown := rfl
@[simp] theorem acquireLink_outputs (a : Address) (b : Nat) : (acquireLink a b s).outputs = s.outputs := rfl
@[simp] theorem acquireLink_inputs (a : Address) (b : Nat) : (acquireLink a b s).inputs = s.inputs := rfl
@[simp] theorem acquireLink_pending (a : Address) (b : Nat) : (acquireLink a b s).pending = s.pending := rfl
@[simp] theorem acquireLink_pollCursor (a : Address) (b : Nat) : (acquireLink a b s).pollCursor = s.pollCursor := rfl
@[simp] theorem acquireLink_events (a : Address) (b : Nat) : (acquireLink a b s).events = s.events := rfl
@[simp] theorem acquireLink_response (a : Address) (b : Nat) : (acquireLink a b s).response = s.response := rfl
@[simp] theorem acquireLink_agenda (a : Address) (b : Nat) : (acquireLink a b s).agenda = s.agenda := rfl
@[simp] theorem acquireLink_ticks (a : Address) (b : Nat) : (acquireLink a b s).ticks = s.ticks := rfl
@[simp] theorem acquireLink_ticksUsed (a : Address) (b : Nat) : (acquireLink a b s).ticksUsed = s.ticksUsed := rfl
@[simp] theorem acquireLink_draws (a : Address) (b : Nat) : (acquireLink a b s).draws = s.draws := rfl
@[simp] theorem acquireLink_drawsUsed (a : Address) (b : Nat) : (acquireLink a b s).drawsUsed = s.drawsUsed := rfl

@[simp] theorem restart_params : (restart s).params = s.params := rfl
@[simp] theorem restart_lineIn : (restart s).lineIn = s.lineIn := rfl
@[simp] theorem restart_now : (restart s).now = s.now := rfl
@[simp] theorem restart_agenda : (restart s).agenda = s.agenda.filter (fun a => !isReceivedFrame a) := rfl
@[simp] theorem restart_ticks : (restart s).ticks = s.ticks := rfl
@[simp] theorem restart_ticksUsed : (restart s).ticksUsed = s.ticksUsed := rfl
@[simp] theorem restart_draws : (restart s).draws = s.draws := rfl
@[simp] theorem restart_drawsUsed : (restart s).drawsUsed = s.drawsUsed := rfl

end Sys2Proof.Machine
end

