-- ==== Sys2Proof/Laws/Ops.lean ====
section
/-! SUPPORT. For each shared operation, one lemma that says once everything it can do: what holds when it
answers a next state, and which fields it leaves alone. Later proofs cite these and unfold nothing. -/

namespace Sys2Proof.Machine

/-! ### Preconditions and the transmit side -/

/-- R120: `whenOpen` goes on exactly on an open link of a block that is not halted. -/
theorem whenOpen_eq_next {s t : State} {k : Answer} :
    whenOpen s k = .next t ↔ s.rxState ≠ .halted ∧ s.linkOpen = true ∧ k = .next t := by
  unfold whenOpen
  split
  · simp_all
  · cases h : s.linkOpen <;> simp_all

@[simp] theorem whenOpen_of_open {s : State} (k : Answer) (h : s.rxState ≠ .halted) (o : s.linkOpen = true) :
    whenOpen s k = k := by simp [whenOpen, h, o]

theorem whenOpen_of_halted {s : State} (k : Answer) (h : s.rxState = .halted) :
    whenOpen s k = .refused .halted := by simp [whenOpen, h]

theorem whenOpen_of_closed {s : State} (k : Answer) (h : s.rxState ≠ .halted) (o : s.linkOpen = false) :
    whenOpen s k = .refused .linkNotOpen := by simp [whenOpen, h, o]

/-- R95, R127: what it is for a number of bytes to fit the transport. -/
theorem fitsTransport_iff (p : Params) (n : Nat) :
    fitsTransport p n = true ↔ ∀ limit, p.txMaxLen = some limit → n ≤ limit := by
  unfold fitsTransport
  cases p.txMaxLen <;> simp

/-- R127, R128: the state after a write, by its draw. -/
def writeOutcome (bytes : Bytes) (s : State) : State :=
  if s.currentDraw.fail then writeFailure bytes s.currentDraw.wireCount s.popDraw
  else respond .ok (lineFlush (lineWrite bytes s.popDraw))

/-- Everything `transmit` can do when it answers a next state. -/
theorem transmit_eq_next {bytes : Bytes} {s t : State} :
    transmit bytes s = .next t ↔
      s.rxState ≠ .halted ∧ s.linkOpen = true ∧ fitsTransport s.params bytes.length = true ∧
        t = writeOutcome bytes s := by
  unfold transmit
  rw [whenOpen_eq_next]
  cases fitsTransport s.params bytes.length
  · simp
  · simp only [if_true, Host.Outcome.next.injEq, true_and]
    exact and_congr_right fun _ => and_congr_right fun _ => eq_comm

/-- A write fits, on an open link: it ends in `writeOutcome`. -/
theorem transmit_of_fits {bytes : Bytes} {s : State} (h : s.rxState ≠ .halted) (o : s.linkOpen = true)
    (f : fitsTransport s.params bytes.length = true) : transmit bytes s = .next (writeOutcome bytes s) :=
  transmit_eq_next.2 ⟨h, o, f, rfl⟩

theorem length_frameBody (p : Params) (id command : Byte) (payload : Bytes) :
    (frameBody p id command payload).length = payload.length + 4 := by
  simp [frameBody]

theorem length_buildFrame (p : Params) (id command : Byte) (payload : Bytes) :
    (buildFrame p id command payload).length = payload.length + 5 := by
  simp [buildFrame, length_frameBody]

/-- R95: ENCODE answers the built frame when it fits, and nothing else. -/
theorem encodeFrame_eq_some {p : Params} {id command : Byte} {payload f : Bytes} :
    encodeFrame p id command payload = some f ↔
      fitsTransport p (payload.length + 5) = true ∧ f = buildFrame p id command payload := by
  unfold encodeFrame
  rw [length_frameBody]
  cases fitsTransport p (payload.length + 4 + 1) <;> simp_all [eq_comm]

/-- Everything `sendFrame` can do when it answers a next state. -/
theorem sendFrame_eq_next {id command : Byte} {payload : Bytes} {s t : State} :
    sendFrame id command payload s = .next t ↔
      s.rxState ≠ .halted ∧ s.linkOpen = true ∧ fitsTransport s.params (payload.length + 5) = true ∧
        t = writeOutcome (buildFrame s.params id command payload) s := by
  unfold sendFrame
  cases h : encodeFrame s.params id command payload with
  | none =>
    have : ¬ fitsTransport s.params (payload.length + 5) = true := fun c => by
      have := (encodeFrame_eq_some (id := id) (command := command)).2 ⟨c, rfl⟩
      rw [h] at this
      cases this
    simp [this]
  | some f =>
    obtain ⟨hf, rfl⟩ := encodeFrame_eq_some.1 h
    simp [transmit_eq_next, length_buildFrame, hf]

/-- What a write leaves alone, and what it does to the line and the records. -/
theorem writeOutcome_frame (bytes : Bytes) (s : State) :
    writeOutcome bytes s =
      { s with
        lineOut := (writeOutcome bytes s).lineOut, txfifo := [], log := (writeOutcome bytes s).log,
        draws := s.draws.tail, drawsUsed := s.drawsUsed + 1,
        response := (writeOutcome bytes s).response } := by
  unfold writeOutcome
  split <;> rfl

theorem writeOutcome_lineOut (bytes : Bytes) (s : State) :
    (writeOutcome bytes s).lineOut =
      if s.currentDraw.fail then s.lineOut ++ bytes.take s.currentDraw.wireCount
      else s.lineOut ++ (s.txfifo ++ bytes) := by
  unfold writeOutcome
  split <;> rfl

theorem writeOutcome_log (bytes : Bytes) (s : State) :
    (writeOutcome bytes s).log =
      if s.currentDraw.fail then s.log ++ [{ level := .error, event := .linkWriteError }] else s.log := by
  unfold writeOutcome
  split <;> rfl

/-! ### The receive side -/

/-- R124: a wait changes the clock, the line's input and `RXFIFO`, and nothing else. -/
theorem waitForBytes_frame (n : Nat) (s : State) :
    waitForBytes n s =
      { s with
        now := (waitForBytes n s).now, lineIn := (waitForBytes n s).lineIn,
        rxfifo := (waitForBytes n s).rxfifo } := by
  unfold waitForBytes
  split
  · split
    · rfl
    · split <;> rfl
  · rfl

/-- R45: a read leaves `RXFIFO` empty and changes else only the clock and the line's input. -/
theorem readDone_frame (n : Nat) (s : State) :
    readDone n s = { s with now := (readDone n s).now, lineIn := (readDone n s).lineIn, rxfifo := [] } := by
  unfold readDone
  rw [waitForBytes_frame]
  rfl

/-- R124: a wait lasts no longer than `maxWait`, and the clock does not go back. -/
theorem waitForBytes_now (n : Nat) (s : State) :
    s.now ≤ (waitForBytes n s).now ∧ (waitForBytes n s).now ≤ s.now + n := by
  unfold waitForBytes
  split
  · split
    · simp
    · rename_i a rest _
      split
      · rename_i h
        have : a.time ≤ s.now + n := by simp [State.there] at h; exact h.1
        simp only [deliver_now]
        omega
      · simp
  · simp

/-- R136: delivering moves bytes from the line to the back of `RXFIFO`, in order, on an open link. -/
theorem deliver_bytes (s : State) (o : s.linkOpen = true) :
    (deliver s).rxfifo ++ (deliver s).lineIn.map Arrival.byte = s.rxfifo ++ s.lineIn.map Arrival.byte := by
  simp only [deliver_rxfifo, o, if_true, deliver_lineIn, State.due, List.append_assoc, ← List.map_append,
    List.takeWhile_append_dropWhile]

/-- R124, R136: so does a wait. -/
theorem waitForBytes_bytes (n : Nat) (s : State) (o : s.linkOpen = true) :
    (waitForBytes n s).rxfifo ++ (waitForBytes n s).lineIn.map Arrival.byte =
      s.rxfifo ++ s.lineIn.map Arrival.byte := by
  unfold waitForBytes
  split
  · split
    · rfl
    · split
      · exact deliver_bytes _ o
      · rfl
  · rfl

/-- R153: what appending a chunk changes. -/
theorem appendChunk_frame (c : Bytes) (s : State) :
    appendChunk c s =
      { s with
        rxbuf := s.rxbuf ++ c, tLastRx := if c = [] then s.tLastRx else s.now,
        rxState := if c = [] then s.rxState else .framing } := by
  unfold appendChunk
  split <;> simp_all

/-- R212, R213: what a decode status does to the log and the counter, and that a frame goes to the host. -/
theorem actOnStatus_frame (r : DecodeResult) (s : State) :
    actOnStatus r s =
      { s with
        rxState := (actOnStatus r s).rxState, agenda := (actOnStatus r s).agenda,
        log := if r.status = .checksumError then s.log ++ [{ level := .warning, event := .frameChecksumError }]
          else s.log,
        cntMalformed := if r.status = .malformedShort then s.cntMalformed + 1 else s.cntMalformed } := by
  obtain ⟨st, fr, k⟩ := r
  cases st <;> cases fr <;> rfl

theorem actOnStatus_agenda (r : DecodeResult) (s : State) (h : r.frame.isSome → r.status = .frameOk) :
    (actOnStatus r s).agenda = (r.frame.map HostAction.dispatchFrame).toList ++ s.agenda := by
  obtain ⟨st, fr, k⟩ := r
  cases fr with
  | none => cases st <;> rfl
  | some f =>
    simp only [Option.isSome_some, true_implies] at h
    subst h
    rfl

/-! ### The host's turn and the step -/

/-- Everything `issue` can do when it answers a next state. -/
theorem issue_eq_next {a : HostAction} {s t : State} (h : issue a s = .next t) :
    (∃ i, decode s.params a = .instr i ∧ i.wf s.params = true ∧ exec i s = .next t) ∨
      (decode s.params a = .rejected .ignoredCommand ∧ t = s) := by
  unfold issue at h
  split at h
  · rename_i i hi
    split at h
    · exact .inl ⟨i, hi, ‹_›, h⟩
    · cases h
  · exact .inr ⟨‹_›, by cases h; rfl⟩
  · cases h
  · cases h

/-- Everything a step can do when it answers a next state. -/
theorem step_cases {s t : State} (h : step s = .next t) :
    (s.currentTick.restart = true ∧ t = restart (beginStep s)) ∨
    (s.currentTick.restart = false ∧ s.agenda = [] ∧ t = beginStep s) ∨
    (s.currentTick.restart = false ∧ ∃ a rest, s.agenda = a :: rest ∧ s.params.validated = true ∧
      ((∃ i, decode s.params a = .instr i ∧ i.wf s.params = true ∧
          exec i (setAgenda rest (beginStep s)) = .next t) ∨
        (decode s.params a = .rejected .ignoredCommand ∧ t = setAgenda rest (beginStep s)))) := by
  unfold step turn at h
  split at h
  · exact .inl ⟨‹_›, by cases h; rfl⟩
  · rename_i hr
    simp only [Bool.not_eq_true] at hr
    unfold hostTurn at h
    simp only [beginStep_agenda, beginStep_params] at h
    cases ha : s.agenda with
    | nil =>
      simp only [ha] at h
      exact .inr (.inl ⟨hr, rfl, by cases h; rfl⟩)
    | cons a rest =>
      cases hv : s.params.validated with
      | false => simp [ha, hv] at h
      | true =>
        simp only [ha, hv, if_true] at h
        exact .inr (.inr ⟨hr, a, rest, rfl, rfl, issue_eq_next h⟩)

end Sys2Proof.Machine
end

