-- ==== Sys2Proof/Laws/Codec.lean ====
section
/-! SUPPORT. The small lemmas of the codec's functions: the search for a marker, and the slices a candidate is
cut by. -/

namespace Sys2Proof

/-- R7: there is no least index exactly when the byte does not occur. -/
theorem leastIndex_eq_none {b : Byte} {l : Bytes} : leastIndex b l = none ↔ b ∉ l := by
  induction l with
  | nil => simp [leastIndex]
  | cons x xs ih =>
    by_cases h : x = b
    · simp [leastIndex, h]
    · simp [leastIndex, h, ih, Ne.symm h]

/-- R7: the least index splits the sequence at the first occurrence of the byte. -/
theorem leastIndex_eq_some {b : Byte} {l : Bytes} {n : Nat} :
    leastIndex b l = some n ↔ ∃ front back, l = front ++ b :: back ∧ b ∉ front ∧ front.length = n := by
  induction l generalizing n with
  | nil => simp [leastIndex]
  | cons x xs ih =>
    by_cases h : x = b
    · subst h
      constructor
      · intro e
        simp [leastIndex] at e
        exact ⟨[], xs, rfl, by simp, by simpa using e⟩
      · rintro ⟨front, back, e, hf, rfl⟩
        cases front with
        | nil => simp [leastIndex]
        | cons y ys => simp at e; simp [e.1] at hf
    · simp only [leastIndex, h, if_false, Option.map_eq_some_iff, ih]
      constructor
      · rintro ⟨m, ⟨front, back, rfl, hf, rfl⟩, rfl⟩
        exact ⟨x :: front, back, rfl, by simp [hf, Ne.symm h], rfl⟩
      · rintro ⟨front, back, e, hf, rfl⟩
        cases front with
        | nil => simp at e; exact absurd e.1 h
        | cons y ys =>
          simp only [List.cons_append, List.cons.injEq] at e
          obtain ⟨rfl, rfl⟩ := e
          exact ⟨ys.length, ⟨ys, back, rfl, by simp at hf; exact hf.2, rfl⟩, rfl⟩

/-- The first occurrence of a byte behind a front without it. -/
theorem leastIndex_append {b : Byte} {front back : Bytes} (h : b ∉ front) :
    leastIndex b (front ++ b :: back) = some front.length :=
  leastIndex_eq_some.2 ⟨front, back, rfl, h, rfl⟩

/-- R93: a returned frame comes only with the status `FRAME_OK`. -/
theorem judgeCandidate_frame_isSome (cand : Bytes) (n : Nat) :
    (judgeCandidate cand n).frame.isSome ↔ (judgeCandidate cand n).status = .frameOk := by
  unfold judgeCandidate
  split
  · simp
  · split <;> simp

@[simp] theorem judgeCandidate_consumed (cand : Bytes) (n : Nat) : (judgeCandidate cand n).consumed = n := by
  unfold judgeCandidate
  split
  · rfl
  · split <;> rfl

/-- R100: the search for `END` behind the first `START`, with the slices resolved. -/
theorem decodeBuffer_of_start (p : Params) (noise m : Bytes) (h : p.startMarker ∉ noise) :
    decodeBuffer p (noise ++ p.startMarker :: m) =
      match leastIndex p.endMarker m with
      | none => { status := .incomplete, frame := none, consumed := noise.length }
      | some j =>
        if j + 1 < m.length then judgeCandidate (p.startMarker :: m.take (j + 2)) (noise.length + j + 3)
        else { status := .incomplete, frame := none, consumed := noise.length } := by
  unfold decodeBuffer
  rw [leastIndex_append h]
  have e : (noise ++ p.startMarker :: m).drop (noise.length + 1) = m := by
    rw [show noise ++ p.startMarker :: m = (noise ++ [p.startMarker]) ++ m by simp]
    exact List.drop_left' (by simp)
  simp only [e]
  cases leastIndex p.endMarker m with
  | none => rfl
  | some j =>
    have i : (noise.length + 1 + j + 1 < noise.length + (m.length + 1)) ↔ (j + 1 < m.length) := by omega
    have c : slice (noise ++ p.startMarker :: m) noise.length (noise.length + 1 + j + 2) =
        p.startMarker :: m.take (j + 2) := by
      unfold slice
      rw [List.drop_left, show noise.length + 1 + j + 2 - noise.length = (j + 2) + 1 by omega,
        List.take_succ_cons]
    simp only [List.length_append, List.length_cons, i, c]
    rw [show noise.length + 1 + j + 2 = noise.length + j + 3 by omega]

/-- R93, R222: the judgement of a candidate whose last byte is split off. -/
theorem judgeCandidate_append (c : Bytes) (ck : Byte) (n : Nat) :
    judgeCandidate (c ++ [ck]) n =
      if checksum c ≠ ck then { status := .checksumError, frame := none, consumed := n }
      else if c.length + 1 < 5 then { status := .malformedShort, frame := none, consumed := n }
      else { status := .frameOk, frame := some (c ++ [ck]), consumed := n } := by
  unfold judgeCandidate frameChecksum slice
  simp

/-- R100: DECODE returns a frame with `FRAME_OK` only. -/
theorem decodeBuffer_frame_isSome (p : Params) (b : Bytes) (h : (decodeBuffer p b).frame.isSome) :
    (decodeBuffer p b).status = .frameOk := by
  revert h
  unfold decodeBuffer
  cases leastIndex p.startMarker b with
  | none => simp
  | some i =>
    simp only
    cases leastIndex p.endMarker (b.drop (i + 1)) with
    | none => simp
    | some j =>
      simp only
      split
      · exact (judgeCandidate_frame_isSome _ _).1
      · simp

end Sys2Proof
end

