-- ==== Sys2Proof/Laws/Meanings.lean ====
section
/-! SUPPORT. For each meaning with more than one way out, one lemma that says once everything it can do when it
answers a next state, and the equations of the shared pieces behind them. -/

namespace Sys2Proof.Machine

/-! ### Writes -/

/-- R127: the state after a write that does not fail. -/
theorem writeOutcome_of_works {b : Bytes} {s : State} (d : s.currentDraw.fail = false) :
    writeOutcome b s =
      { s with
        lineOut := s.lineOut ++ (s.txfifo ++ b), txfifo := [], draws := s.draws.tail,
        drawsUsed := s.drawsUsed + 1,
        response := some { result := .ok, status := (writeOutcome b s).status } } := by
  unfold writeOutcome
  rw [d]
  rfl

/-- R128: the state after a write that fails. -/
theorem writeOutcome_of_fails {b : Bytes} {s : State} (d : s.currentDraw.fail = true) :
    writeOutcome b s =
      { s with
        lineOut := s.lineOut ++ b.take s.currentDraw.wireCount, txfifo := [],
        log := s.log ++ [{ level := .error, event := .linkWriteError }], draws := s.draws.tail,
        drawsUsed := s.drawsUsed + 1,
        response := some { result := .linkWriteError, status := (writeOutcome b s).status } } := by
  unfold writeOutcome
  rw [d]
  rfl

/-! ### The transport -/

/-- R122, R210: what OPEN can do. -/
theorem execOpen_cases {a : Address} {b : Nat} {s t : State} (h : execOpen a b s = .next t) :
    s.rxState ≠ .halted ∧ s.linkOpen = false ∧
      ((s.currentDraw.fail = true ∧
          t = respond (.linkUnavailable a) (fatalEntry .linkUnavailable s.popDraw)) ∨
        (s.currentDraw.fail = false ∧ t = respond .ok (acquireLink a b s.popDraw))) := by
  unfold execOpen at h
  split at h
  · cases h
  · split at h
    · cases h
    · refine ⟨‹_›, by simpa using ‹¬ s.linkOpen = true›, ?_⟩
      cases h
      cases s.currentDraw.fail <;> simp

/-- R124, R126: what READ_AVAILABLE can do. -/
theorem execReadAvailable_cases {n : Nat} {s t : State} (h : execReadAvailable n s = .next t) :
    s.rxState ≠ .halted ∧ s.linkOpen = true ∧
      ((s.currentDraw.fail = true ∧
          t = respond .transportReadError (fatalEntry .transportReadError s.popDraw)) ∨
        (s.currentDraw.fail = false ∧
          t = respond (.bytes (readChunk n s.popDraw)) (readDone n s.popDraw))) := by
  obtain ⟨a, b, h⟩ := whenOpen_eq_next.1 h
  refine ⟨a, b, ?_⟩
  cases h
  cases s.currentDraw.fail <;> simp

/-- R130: what FLUSH can do. -/
theorem execFlush_cases {s t : State} (h : execFlush s = .next t) :
    s.rxState ≠ .halted ∧ s.linkOpen = true ∧
      ((s.currentDraw.fail = true ∧ s.txfifo ≠ [] ∧
          t = writeFailure s.txfifo s.currentDraw.wireCount s.popDraw) ∨
        ((s.currentDraw.fail = false ∨ s.txfifo = []) ∧ t = respond .ok (lineFlush s.popDraw))) := by
  obtain ⟨a, b, h⟩ := whenOpen_eq_next.1 h
  refine ⟨a, b, ?_⟩
  cases h
  cases s.currentDraw.fail <;> by_cases e : s.txfifo = [] <;> simp [e]

/-! ### The sequencer -/

/-- R153: what RX_STEP can do. -/
theorem execRxStep_cases {n : Nat} {s t : State} (h : execRxStep n s = .next t) :
    s.rxState ≠ .halted ∧
      ((s.shutdown = true ∧ t = respond (.rxStep .halted none) (enterShutdown s)) ∨
        (s.shutdown = false ∧ s.linkOpen = true ∧ s.currentDraw.fail = true ∧
          t = respond .transportReadError (fatalEntry .transportReadError s.popDraw)) ∨
        (s.shutdown = false ∧ s.linkOpen = true ∧ s.currentDraw.fail = false ∧
          rxOverflows s.popDraw (readChunk n s.popDraw) = false ∧
          t = finishRxStep (appendChunk (readChunk n s.popDraw) (readDone n s.popDraw)))) := by
  unfold execRxStep at h
  split at h
  · cases h
  · refine ⟨‹_›, ?_⟩
    split at h
    · exact .inl ⟨‹_›, by cases h; rfl⟩
    · rename_i hs
      simp only [Bool.not_eq_true] at hs
      obtain ⟨-, o, h⟩ := whenOpen_eq_next.1 h
      split at h
      · exact .inr (.inl ⟨hs, o, ‹_›, by cases h; rfl⟩)
      · rename_i d
        simp only [Bool.not_eq_true] at d
        unfold rxAfterRead at h
        split at h
        · cases h
        · rename_i v
          simp only [Bool.not_eq_true] at v
          exact .inr (.inr ⟨hs, o, d, v, by cases h; rfl⟩)

/-- R153: a step that decodes, field by field. -/
theorem decodeInStep_eq (s : State) :
    decodeInStep s =
      { s with
        rxbuf := s.rxbuf.drop (decodeBuffer s.params s.rxbuf).consumed,
        dstat := .ran (decodeBuffer s.params s.rxbuf).status,
        rxState := restingState (s.rxbuf.drop (decodeBuffer s.params s.rxbuf).consumed),
        log := if (decodeBuffer s.params s.rxbuf).status = .checksumError then
          s.log ++ [{ level := .warning, event := .frameChecksumError }] else s.log,
        cntMalformed := if (decodeBuffer s.params s.rxbuf).status = .malformedShort then
          s.cntMalformed + 1 else s.cntMalformed,
        agenda := ((decodeBuffer s.params s.rxbuf).frame.map HostAction.dispatchFrame).toList ++ s.agenda,
        response := (decodeInStep s).response } := by
  have a := actOnStatus_agenda (decodeBuffer s.params s.rxbuf)
    (consume (decodeBuffer s.params s.rxbuf) s) (decodeBuffer_frame_isSome s.params s.rxbuf)
  have f := actOnStatus_frame (decodeBuffer s.params s.rxbuf) (consume (decodeBuffer s.params s.rxbuf) s)
  unfold decodeInStep
  generalize actOnStatus (decodeBuffer s.params s.rxbuf) (consume (decodeBuffer s.params s.rxbuf) s) = v at *
  rw [a] at f
  rw [f]
  rfl

theorem decodeInStep_response (s : State) :
    (decodeInStep s).response =
      some { result := .rxStep (.decoded (decodeBuffer s.params s.rxbuf).status)
               (decodeBuffer s.params s.rxbuf).frame,
             status := (decodeInStep s).status } := rfl

/-- R57, R153: everything the end of RX_STEP can do: it rests on an empty buffer, goes on accumulating, or
decodes once. -/
theorem finishRxStep_cases (s : State) :
    (s.rxbuf = [] ∧ finishRxStep s = respond (.rxStep .idle none) { s with rxState := .idle }) ∨
      (s.rxbuf ≠ [] ∧ quiet s s.now = false ∧ finishRxStep s = respond (.rxStep .accumulating none) s) ∨
      (s.rxbuf ≠ [] ∧ quiet s s.now = true ∧ finishRxStep s = decodeInStep s) := by
  unfold finishRxStep
  split
  · exact .inl ⟨‹_›, rfl⟩
  · rename_i n
    cases q : quiet s s.now
    · exact .inr (.inl ⟨n, rfl, rfl⟩)
    · exact .inr (.inr ⟨n, rfl, rfl⟩)

/-- R153: which fields the end of RX_STEP can change. -/
theorem finishRxStep_frame (s : State) :
    finishRxStep s =
      { s with
        rxbuf := (finishRxStep s).rxbuf, dstat := (finishRxStep s).dstat,
        rxState := (finishRxStep s).rxState, log := (finishRxStep s).log,
        cntMalformed := (finishRxStep s).cntMalformed, agenda := (finishRxStep s).agenda,
        response := (finishRxStep s).response } := by
  unfold finishRxStep
  split
  · rfl
  · split
    · have h := decodeInStep_eq s
      generalize decodeInStep s = t at *
      rw [h]
    · rfl

/-- R57, R150: what the end of RX_STEP does to the buffer and the records, and where the sequencer rests. -/
theorem finishRxStep_records (s : State) :
    (∃ k, (finishRxStep s).rxbuf = s.rxbuf.drop k) ∧ s.log <+: (finishRxStep s).log ∧
      s.cntMalformed ≤ (finishRxStep s).cntMalformed ∧
      ((finishRxStep s).rxState = restingState (finishRxStep s).rxbuf ∨
        ((finishRxStep s).rxState = s.rxState ∧ (finishRxStep s).rxbuf = s.rxbuf ∧ s.rxbuf ≠ [])) := by
  unfold finishRxStep
  split
  · rename_i h
    exact ⟨⟨0, rfl⟩, List.prefix_rfl, le_rfl, .inl (by simp [restingState, h])⟩
  · rename_i n
    split
    · have h := decodeInStep_eq s
      generalize decodeInStep s = t at *
      refine ⟨⟨_, congrArg State.rxbuf h⟩, ?_, ?_, .inl ?_⟩
      · rw [congrArg State.log h]
        simp only
        split <;> simp
      · rw [congrArg State.cntMalformed h]
        simp only
        split <;> simp
      · rw [congrArg State.rxState h, congrArg State.rxbuf h]
    · exact ⟨⟨0, rfl⟩, List.prefix_rfl, le_rfl, .inr ⟨rfl, rfl, n⟩⟩

/-! ### The handshake -/

/-- R177, R183: what a data-ready token can do. -/
theorem execDataReady_cases {id : Byte} {payload : Bytes} {s t : State}
    (h : execDataReady id payload s = .next t) :
    (id ≠ s.params.hostPeerId ∧ t = s) ∨
      (id = s.params.hostPeerId ∧
        ((s.pending = none ∧ t = emit .dataReady s) ∨
          (s.rxState ≠ .halted ∧ s.linkOpen = true ∧ ∃ b,
            (s.pending ≠ none ∧ t = writeOutcome b (drainSlot (emit .dataReady s))) ∨
              (s.pending = none ∧ t = writeOutcome b (advancePoll (emit .dataReady s)))))) := by
  unfold execDataReady handshake at h
  split at h
  · refine .inr ⟨‹_›, ?_⟩
    split at h
    · rename_i c hc
      obtain ⟨a, b, -, e⟩ := sendFrame_eq_next.1 h
      exact .inr ⟨a, b, _, .inl ⟨by rw [emit_pending] at hc; simp [hc], e⟩⟩
    · rename_i hc
      split at h
      · obtain ⟨a, b, -, e⟩ := sendFrame_eq_next.1 h
        exact .inr ⟨a, b, _, .inr ⟨hc, e⟩⟩
      · exact .inl ⟨hc, by cases h; rfl⟩
  · exact .inl ⟨‹_›, by cases h; rfl⟩

end Sys2Proof.Machine
end

