-- ==== Sys2Proof/Laws/PerInstr.lean ====
section
/-! SUPPORT. A law of every instruction as syntax, stated for each constructor: what the encoder presents for
it is the request with its row's op code, the frame of its row, or a call of the command interface. -/

namespace Sys2Proof.Laws.Presented

/-- R70, R72, R82: an instruction with an op code is presented as a request with that code; one without is
presented as the frame of its row, or, when it goes to the controller, as a call of the host's. -/
def Statement (i : Instr) : Prop :=
  ∀ p : Params,
    match opCode i with
    | some c => ∃ a, encode p i = .request c a
    | none => ∃ f, rowFrame p i = some f ∧
        (encode p i = .dispatchFrame f ∨ ∀ (q : Params) (g : Bytes), encode q i ≠ .dispatchFrame g)

theorem openLink (address : Address) (baudRate : Nat) : Statement (.openLink address baudRate) := fun _ => ⟨_, rfl⟩
theorem close : Statement .close := fun _ => ⟨_, rfl⟩
theorem readAvailable (maxWait : Nat) : Statement (.readAvailable maxWait) := fun _ => ⟨_, rfl⟩
theorem writeFrame (bytes : Bytes) : Statement (.writeFrame bytes) := fun _ => ⟨_, rfl⟩
theorem flush : Statement .flush := fun _ => ⟨_, rfl⟩
theorem encode (id command : Byte) (payload : Bytes) : Statement (.encode id command payload) := fun _ => ⟨_, rfl⟩
theorem decode (buffer : Bytes) : Statement (.decode buffer) := fun _ => ⟨_, rfl⟩
theorem rxStep (maxWait : Nat) : Statement (.rxStep maxWait) := fun _ => ⟨_, rfl⟩
theorem send (id command : Byte) (payload : Bytes) : Statement (.send id command payload) := fun _ => ⟨_, rfl⟩
theorem dataReady (id : Byte) (payload : Bytes) : Statement (.dataReady id payload) := fun _ => ⟨_, rfl, .inl rfl⟩
theorem outputStateReport (id : Byte) (payload : Bytes) : Statement (.outputStateReport id payload) :=
  fun _ => ⟨_, rfl, .inl rfl⟩
theorem inputStateReport (id : Byte) (payload : Bytes) : Statement (.inputStateReport id payload) :=
  fun _ => ⟨_, rfl, .inl rfl⟩
theorem inputActivated (id : Byte) (payload : Bytes) : Statement (.inputActivated id payload) :=
  fun _ => ⟨_, rfl, .inl rfl⟩
theorem setOutput (moduleIndex outputIndex desiredState : Nat) :
    Statement (.setOutput moduleIndex outputIndex desiredState) :=
  fun _ => ⟨_, rfl, .inr fun _ _ h => by cases h⟩
theorem requestOutputs (moduleIndex : Nat) : Statement (.requestOutputs moduleIndex) :=
  fun _ => ⟨_, rfl, .inr fun _ _ h => by cases h⟩
theorem requestInputs (moduleIndex : Nat) : Statement (.requestInputs moduleIndex) :=
  fun _ => ⟨_, rfl, .inr fun _ _ h => by cases h⟩

end Sys2Proof.Laws.Presented
end

