-- ==== Sys2Proof/Tests/Slice0.lean ====
section
/-! SUPPORT. The model's own tests: the well-formedness smoke tests, words and frames decoded, at most two
small theorems for each instruction, and a witness for the hypotheses of each statement. Expected results
come from spec/95_test_vectors.md (the vector is named), with its REF parameters. -/

namespace Sys2Proof.Tests

open Sys2Proof Sys2Proof.Machine

/-- The REF parameter set of spec/95_test_vectors.md. -/
def ref : Params where
  startMarker := 0x02
  endMarker := 0x17
  silenceMs := 50
  rxbufCap := none
  txMaxLen := none
  hostPeerId := 0x1C
  controllerId := 0x12
  opcDataReady := 0x30
  opcOutputStateReport := 0x83
  opcInputStateReport := 0x87
  opcInputActivated := 0x88
  opcSetOutput := 0x7A
  opcRequestOutputs := 0x82
  opcRequestInputs := 0x86
  outCount := 2
  inCount := 2
  pollIntervalMs := 1000

/-- The reset state with REF, a silent line, and a device whose first draw is `d`. -/
def closed (d : Draw) : State := { State.resetWith ref with lineIn := [], draws := [d] }

/-- The same with the link open. -/
def opened (d : Draw) : State :=
  { closed d with linkOpen := true, linkCfg := { address := [0x61], baudRate := 19200 } }

/-- A draw of a device that works. -/
def works : Draw := { fail := false, wireCount := 0 }

/-- A draw of a device that fails with `k` bytes on the wire. -/
def breaks (k : Nat) : Draw := { fail := true, wireCount := k }

/-- A tick in which the clock reads `t` and nothing else happens. -/
def tick (t : Nat) : Tick := { reading := t, shutdown := false, submitted := none, restart := false }

/-- A field of the next state, where there is one. -/
def after {α : Type} (i : Instr) (s : State) (f : State → α) : Option α :=
  match exec i s with
  | .next t => some (f t)
  | .fault _ => none
  | .refused _ => none

/-- The refusal, where there is one. -/
def refusal (i : Instr) (s : State) : Option Refusal :=
  match exec i s with
  | .next _ => none
  | .fault _ => none
  | .refused r => some r

/-- The result in a state's response. -/
def answer (s : State) : Option Result := s.response.map Response.result

/-- The data-ready frame of REF. -/
def token : Bytes := [0x02, 0x1C, 0x30, 0x17, 0x65]

/-! ### Well-formedness: each check refuses an ill-formed term -/

theorem test_wf_refuses_speed_zero : (Instr.openLink [] 0).wf ref = false := by decide
theorem test_wf_refuses_end_in_id : (Instr.dataReady 0x17 []).wf ref = false := by decide
theorem test_wf_refuses_end_in_command :
    (Instr.inputActivated 0x1C [1, 2]).wf { ref with opcInputActivated := 0x17 } = false := by decide
theorem test_wf_refuses_end_in_payload : (Instr.outputStateReport 0x1C [0x17, 1]).wf ref = false := by decide
theorem test_wf_refuses_no_outputs : Params.wf { ref with outCount := 0 } = false := by decide
theorem test_wf_refuses_no_inputs : Params.wf { ref with inCount := 0 } = false := by decide
theorem test_wf_refuses_interval_zero : Params.wf { ref with pollIntervalMs := 0 } = false := by decide
theorem test_wf_refuses_equal_inbound : Params.wf { ref with opcDataReady := 0x83 } = false := by decide
theorem test_wf_refuses_equal_outbound : Params.wf { ref with opcSetOutput := 0x82 } = false := by decide
theorem test_wf_accepts_ref : ref.wf = true := by decide

/-! ### Decoding: words and frames written out from R60 and R70 -/

theorem test_decode_open : decodeTableWord 8 0x1 = some (.openLink [] 1) := by decide
theorem test_decode_close : decodeTableWord 8 0x2 = some .close := by decide
theorem test_decode_read_available : decodeTableWord 8 0x3 = some (.readAvailable 0) := by decide
theorem test_decode_write_frame : decodeTableWord 8 0x4 = some (.writeFrame []) := by decide
theorem test_decode_flush : decodeTableWord 8 0x5 = some .flush := by decide
theorem test_decode_encode : decodeTableWord 8 0x6 = some (.encode 0 0 []) := by decide
theorem test_decode_decode : decodeTableWord 8 0x7 = some (.decode []) := by decide
theorem test_decode_rx_step : decodeTableWord 8 0x8 = some (.rxStep 0) := by decide
theorem test_decode_send : decodeTableWord 8 0x9 = some (.send 0 0 []) := by decide
/-- R75. -/
theorem test_decode_reserved : (List.range 16).filter (fun w => decodeTableWord 8 w = none) =
    [0, 10, 11, 12, 13, 14, 15] := by decide
/-- V-ENC-3. -/
theorem test_decode_data_ready : decode ref (.dispatchFrame token) = .instr (.dataReady 0x1C []) := by decide
/-- V-ENC-4. -/
theorem test_decode_output_report : decode ref (.dispatchFrame [0x02, 0x1C, 0x83, 0x01, 0xA5, 0x17, 0x5E]) =
    .instr (.outputStateReport 0x1C [0x01, 0xA5]) := by decide
/-- V-ENC-5. -/
theorem test_decode_input_report :
    decode ref (.dispatchFrame [0x02, 0x1C, 0x87, 0x00, 0x34, 0x12, 0x17, 0x02]) =
      .instr (.inputStateReport 0x1C [0x00, 0x34, 0x12]) := by decide
/-- V-ENC-6. -/
theorem test_decode_activation : decode ref (.dispatchFrame [0x02, 0x1C, 0x88, 0x02, 0x05, 0x17, 0xC4]) =
    .instr (.inputActivated 0x1C [0x02, 0x05]) := by decide
/-- V-H-6: an unknown command. -/
theorem test_decode_unknown_command : decode ref (.dispatchFrame [0x02, 0x1C, 0x99, 0x17, 0xCE]) =
    .rejected .ignoredCommand := by decide
/-- V-DEC-8: a wrong checksum is no frame. -/
theorem test_decode_not_a_frame : decode ref (.dispatchFrame [0x02, 0x1C, 0x30, 0x17, 0x66]) =
    .rejected .notAFrame := by decide
/-- R82, R185. -/
theorem test_decode_submit : decode ref (.submitCommand 1 3 1) = .instr (.setOutput 1 3 1) := by decide
/-- R82, R187. -/
theorem test_decode_refresh_outputs : decode ref (.requestModuleRefresh 4 .outputs) =
    .instr (.requestOutputs 4) := by decide
/-- R82, R187. -/
theorem test_decode_refresh_inputs : decode ref (.requestModuleRefresh 4 .inputs) =
    .instr (.requestInputs 4) := by decide
/-- V-ENC-2, as the table's FRAME row SET_OUTPUT would have it with the payload `[0x0B, 0x01]`. -/
theorem test_frame_of_set_output : buildFrame ref 0x12 0x7A [0x0B, 0x01] =
    [0x02, 0x12, 0x7A, 0x0B, 0x01, 0x17, 0xB1] := by decide

/-! ### The codec -/

/-- V-CK-4 and V-CK-6. -/
theorem test_checksum_drops_carry : checksum [0xFF, 0xFF, 0xFF, 0xFF] = 0xFC ∧
    checksum [0x02, 0x1C, 0x83, 0x01, 0xA5, 0x17] = 0x5E := by decide
/-- V-ENC-1. -/
theorem test_encode_answers : after (.encode 0x12 0x82 [0x01]) (closed works) answer =
    some (some (.bytes [0x02, 0x12, 0x82, 0x01, 0x17, 0xAE])) := by decide
/-- V-ENC-10: the checksum equals `END`. -/
theorem test_encode_checksum_is_end : encodeFrame ref 0x00 0xFC [0x02] =
    some [0x02, 0x00, 0xFC, 0x02, 0x17, 0x17] := by decide
/-- V-DEC-7. -/
theorem test_decode_behind_noise :
    after (.decode [0xFF, 0xFF, 0x02, 0x1C, 0x30, 0x17, 0x65]) (closed works) answer =
      some (some (.decoded { status := .frameOk, frame := some token, consumed := 7 })) := by decide
/-- V-DEC-4, V-DEC-5, V-DEC-8, V-DEC-9, V-DEC-11, V-DEC-14. -/
theorem test_decode_outcomes :
    decodeBuffer ref [0xAA, 0xBB, 0x02, 0x1C] = { status := .incomplete, frame := none, consumed := 2 } ∧
    decodeBuffer ref [0x02, 0x1C, 0x30, 0x17] = { status := .incomplete, frame := none, consumed := 0 } ∧
    decodeBuffer ref [0x02, 0x1C, 0x30, 0x17, 0x66] =
      { status := .checksumError, frame := none, consumed := 5 } ∧
    decodeBuffer ref [0x02, 0x17, 0x19] = { status := .malformedShort, frame := none, consumed := 3 } ∧
    decodeBuffer ref [0x02, 0x17, 0x00] = { status := .checksumError, frame := none, consumed := 3 } ∧
    decodeBuffer ref [0x02, 0x12, 0x7A, 0x17, 0x01, 0x17, 0xBD] =
      { status := .checksumError, frame := none, consumed := 5 } := by decide
/-- V-ALT-3 and V-ALT-5: equal markers. -/
theorem test_decode_equal_markers :
    decodeBuffer { ref with startMarker := 0x17 } [0x17, 0x10, 0x20, 0x17, 0x5E] =
      { status := .frameOk, frame := some [0x17, 0x10, 0x20, 0x17, 0x5E], consumed := 5 } ∧
    decodeBuffer { ref with startMarker := 0x17 } [0x17, 0x17] =
      { status := .incomplete, frame := none, consumed := 0 } := by decide

/-! ### The transport -/

/-- V-TR-1. -/
theorem test_open_succeeds :
    after (.openLink [0x61] 19200) (closed works) (fun t => (t.linkOpen, t.linkCfg, answer t)) =
      some (true, { address := [0x61], baudRate := 19200 }, some .ok) := by decide
/-- V-TR-2. -/
theorem test_open_fails :
    after (.openLink [0x61] 19200) (closed (breaks 0)) (fun t => (t.log, t.err, t.linkOpen, t.rxState)) =
      some ([{ level := .error, event := .linkUnavailable }], .linkUnavailable, false, .halted) := by decide
/-- V-TR-14. -/
theorem test_close_keeps_rxbuf :
    after .close { opened works with rxfifo := [0x02], rxbuf := [0x02, 0x1C], rxState := .framing }
      (fun t => (t.linkOpen, t.rxfifo, t.rxbuf)) = some (false, [], [0x02, 0x1C]) := by decide
/-- V-TR-7: an arrival during the wait. -/
theorem test_read_wakes_on_arrival :
    after (.readAvailable 20)
      { opened works with now := 100, lineIn := [{ time := 107, turn := 0, byte := 0x02 }] }
      (fun t => (answer t, t.now)) = some (some (.bytes [0x02]), 107) := by decide
/-- V-TR-9. -/
theorem test_read_fails :
    after (.readAvailable 20) { opened (breaks 0) with rxfifo := [0x1C], rxbuf := [0x02], rxState := .framing }
      (fun t => (t.err, t.linkOpen, t.rxfifo, t.rxState, t.rxbuf)) =
      some (.transportReadError, false, [], .halted, [0x02]) := by decide
/-- V-TR-10. -/
theorem test_write_reaches_line :
    after (.writeFrame [0x02, 0x12, 0x82, 0x01, 0x17, 0xAE]) (opened works) (fun t => (t.lineOut, t.txfifo)) =
      some ([0x02, 0x12, 0x82, 0x01, 0x17, 0xAE], []) := by decide
/-- V-TR-11. -/
theorem test_write_fails_after_three_bytes :
    after (.writeFrame [0x02, 0x12, 0x82, 0x01, 0x17, 0xAE]) (opened (breaks 3))
      (fun t => (t.lineOut, t.log, t.linkOpen, t.err)) =
      some ([0x02, 0x12, 0x82], [{ level := .error, event := .linkWriteError }], true, .noError) := by decide
/-- V-TR-13. -/
theorem test_flush_of_nothing_cannot_fail :
    after .flush (opened (breaks 2)) (fun t => (answer t, t.lineOut, t.log)) = some (some .ok, [], []) := by decide
/-- V-TR-3 and V-TR-4. -/
theorem test_preconditions :
    refusal (.openLink [] 19200) (opened works) = some .linkAlreadyOpen ∧
    refusal (.readAvailable 10) (closed works) = some .linkNotOpen ∧
    refusal .flush (closed works) = some .linkNotOpen := by decide

/-! ### The sequencer -/

/-- V-SQ-3 and V-SQ-4: 49 ms are not quiet, 50 ms are. -/
theorem test_rx_step_silence_boundary :
    after (.rxStep 0) { opened works with rxbuf := token, rxState := .framing, tLastRx := 100, now := 149 } answer =
      some (some (.rxStep .accumulating none)) ∧
    after (.rxStep 0) { opened works with rxbuf := token, rxState := .framing, tLastRx := 100, now := 150 }
      (fun t => (answer t, t.rxbuf, t.rxState, t.agenda)) =
      some (some (.rxStep (.decoded .frameOk) (some token)), [], .idle, [.dispatchFrame token]) := by decide
/-- V-SQ-6 and V-SQ-7. -/
theorem test_rx_step_bad_candidates :
    after (.rxStep 0) { opened works with
        rxbuf := [0x02, 0x1C, 0x30, 0x17, 0x66], rxState := .framing, now := 50 }
      (fun t => (t.rxbuf, t.log, t.cntMalformed)) =
      some ([], [{ level := .warning, event := .frameChecksumError }], 0) ∧
    after (.rxStep 0) { opened works with rxbuf := [0x02, 0x30, 0x17, 0x49], rxState := .framing, now := 50 }
      (fun t => (t.rxbuf, t.log, t.cntMalformed)) = some ([], [], 1) := by decide
/-- V-SQ-14. -/
theorem test_send :
    after (.send 0x12 0x7A [0x0B, 0x01]) (opened works) State.lineOut =
      some [0x02, 0x12, 0x7A, 0x0B, 0x01, 0x17, 0xB1] := by decide
/-- V-SQ-12. -/
theorem test_send_halted :
    refusal (.send 0x12 0x7A []) { opened works with rxState := .halted } = some .halted := by decide

/-! ### The host -/

/-- V-H-8. -/
theorem test_token_sends_pending :
    after (.dataReady 0x1C []) { opened works with pending := some ⟨0x7A, [0x01, 0x03, 0x01]⟩ }
      (fun t => (t.pending, t.lineOut, t.pollCursor)) =
      some (none, [0x02, 0x12, 0x7A, 0x01, 0x03, 0x01, 0x17, 0xAA], ⟨0, true, none⟩) := by decide
/-- V-H-10 and V-H-11, as to when a poll is due: 500 ms are too few, 1000 are enough. -/
theorem test_poll_due_boundary :
    pollDue { opened works with pollCursor := ⟨0, false, some 50⟩, now := 550 } = false ∧
    pollDue { opened works with pollCursor := ⟨0, false, some 50⟩, now := 1050 } = true ∧
    (advancePoll { opened works with pollCursor := ⟨0, false, some 50⟩, now := 1050 }).pollCursor =
      ⟨1, true, some 1050⟩ := by decide
/-- V-H-1. -/
theorem test_output_report :
    after (.outputStateReport 0x1C [0x01, 0xA5]) (closed works) (fun t => (t.outputs, t.events)) =
      some ([0x00, 0xA5], [.outputState 1 0xA5]) := by decide
/-- V-H-3: module 2 of 2 is out of range. -/
theorem test_output_report_out_of_range :
    after (.outputStateReport 0x1C [0x02, 0xFF]) (closed works) (fun t => (t.outputs, t.events, t.cntMalformed)) =
      some ([0x00, 0x00], [], 1) := by decide
/-- V-H-2: low byte first. -/
theorem test_input_report :
    after (.inputStateReport 0x1C [0x00, 0x34, 0x12]) (closed works)
      (fun t => (t.inputs, isInputOn t 0 2, isInputOn t 0 0)) = some ([0x1234, 0x0000], true, false) := by decide
/-- V-H-4. -/
theorem test_input_report_too_short :
    after (.inputStateReport 0x1C [0x01, 0x34]) (closed works) (fun t => (t.inputs, t.cntMalformed)) =
      some ([0, 0], 1) := by decide
/-- V-H-5: no range condition. -/
theorem test_activation :
    after (.inputActivated 0x1C [0x02, 0x05]) (closed works) (fun t => (t.events, t.cntMalformed)) =
      some ([.inputActivated 2 5], 0) := by decide
/-- R185. -/
theorem test_set_output_replaces :
    after (.setOutput 1 3 1) { closed works with pending := some ⟨0, []⟩ } State.pending =
      some (some ⟨0x7A, Config.setOutputPayload 1 3 1⟩) := rfl
/-- R186. -/
theorem test_request_outputs :
    after (.requestOutputs 1) (closed works) State.pending =
      some (some ⟨0x82, Config.requestOutputsPayload 1⟩) := rfl
/-- R186. -/
theorem test_request_inputs :
    after (.requestInputs 1) (closed works) State.pending =
      some (some ⟨0x86, Config.requestInputsPayload 1⟩) := rfl

/-! ### The step from reset -/

/-- R241: from reset the block opens its link when it is asked to; the device's draw is free. -/
theorem test_reset_runs_open : ∃ t, step (State.reset.withFetchWord 8 0x1) = .next t := ⟨_, rfl⟩
/-- R97, R249: ENCODE works before OPEN. -/
theorem test_reset_runs_encode : ∃ t, step (State.reset.withFetchWord 8 0x6) = .next t := ⟨_, rfl⟩
/-- R120: a read before OPEN is refused. -/
theorem test_reset_refuses_read : step (State.reset.withFetchWord 8 0x3) = .refused .linkNotOpen := rfl
/-- R75, V-TR-17. -/
theorem test_reset_refuses_reserved : step (State.reset.withFetchWord 8 0xA) = .refused .reservedOp := rfl

/-! ### Witnesses: for each statement with hypotheses a concrete case that meets them together, and one for each
of its clauses, at the ends of its ranges -/

/-- REF with `TX_MAX_LEN` = `n`. -/
def bounded (n : Nat) : Params := { ref with txMaxLen := some n }

/-- A state whose next step meets no event and performs `a`. -/
def about (a : HostAction) : State := placeAction a (opened works)

theorem witness_ChecksumLaws : ([1, 2] : Bytes).Perm [2, 1] ∧ (0xFF : Byte).toNat = (0xFE : Byte).toNat + 1 ∧
    (1 : Byte).toNat = (0 : Byte).toNat + 1 := by decide
theorem witness_SingleBitChangesChecksum : 7 < 8 ∧
    checksum [0xFF ^^^ BitVec.twoPow 8 7] = checksum [0xFF] - BitVec.twoPow 8 7 ∧
    checksum [0x00 ^^^ BitVec.twoPow 8 7] = checksum [0x00] + BitVec.twoPow 8 7 := by decide
/-- The shortest frame just fits `TX_MAX_LEN` = 5. -/
theorem witness_EncodedFrameShape : encodeFrame (bounded 5) 0x1C 0x30 [] = some token := by decide
/-- Fields of one byte make a candidate of 4 bytes, of two bytes one of 5. -/
theorem witness_DecodeOutcomeByShape : ref.startMarker ∉ ([0xFF] : Bytes) ∧ ref.endMarker ∉ ([0x30] : Bytes) ∧
    decodeBuffer ref [0xFF, 0x02, 0x30, 0x17, 0x49] =
      { status := .malformedShort, frame := none, consumed := 5 } ∧
    decodeBuffer ref [0xFF, 0x02, 0x1C, 0x30, 0x17, 0x65] =
      { status := .frameOk, frame := some token, consumed := 6 } := by decide
theorem witness_DecodeBounds : (decodeBuffer ref []).status = .noStart ∧
    (decodeBuffer ref [0x02]).status = .incomplete ∧ (decodeBuffer ref token).frame = some token := by decide
theorem witness_RoundTripThroughNoise : (0x1C : Byte) ≠ ref.endMarker ∧ (0x30 : Byte) ≠ ref.endMarker ∧
    ref.endMarker ∉ ([0x02] : Bytes) ∧ ref.startMarker ∉ ([0x17] : Bytes) ∧
    (encodeFrame ref 0x1C 0x30 [0x02]).isSome = true := by decide
/-- `END` as the id byte, followed by its checksum; and `END` as the first payload byte, with a wrong and
with a right checksum behind it. -/
theorem witness_EndInFieldCutsFrame :
    (buildFrame ref 0x17 0x19 [])[1]? = some ref.endMarker ∧
    some (checksum (slice (buildFrame ref 0x17 0x19 []) 0 2)) = (buildFrame ref 0x17 0x19 [])[2]? ∧
    (buildFrame ref 0x12 0x7A [0x17, 0xA5])[3]? = some ref.endMarker ∧
    (∀ i < 3, 1 ≤ i → (buildFrame ref 0x12 0x7A [0x17, 0xA5])[i]? ≠ some ref.endMarker) ∧
    some (checksum (slice (buildFrame ref 0x12 0x7A [0x17, 0xA5]) 0 4)) =
      (buildFrame ref 0x12 0x7A [0x17, 0xA5])[4]? ∧
    some (checksum (slice (buildFrame ref 0x12 0x7A [0x17, 0x01]) 0 4)) ≠
      (buildFrame ref 0x12 0x7A [0x17, 0x01])[4]? := by decide
/-- The token with bit 0 of `START`, of the id byte, of `END` and of the checksum inverted. -/
theorem witness_OneBitFlipNeverPasses : token = buildFrame ref 0x1C 0x30 [] ∧
    (0x1C : Byte) ≠ ref.endMarker ∧ (0x30 : Byte) ≠ ref.endMarker ∧
    token[0]? = some 0x02 ∧ ref.startMarker ∉ token.drop 1 ∧ token[1]? = some 0x1C ∧
    (0x1C ^^^ BitVec.twoPow 8 0 : Byte) ≠ ref.endMarker ∧ token[3]? = some 0x17 ∧ token[4]? = some 0x65 ∧
    (decodeBuffer ref (token.set 1 (0x1C ^^^ BitVec.twoPow 8 0))).status = .checksumError := by decide
theorem witness_BoundaryDiscard : ref.startMarker ∉ ([0xFF, 0x17] : Bytes) := by decide
theorem witness_RepeatedDecodeEnds : (decodeBuffer ref [0xFF]).status = .noStart ∧
    (decodeBuffer ref [0xFF, 0x02]).status = .incomplete ∧
    (decodeBuffer ref [0x02, 0x17, 0x19]).consumed = 3 := by decide
theorem witness_DecodeEncodeAgree : ref.inboundDistinct = true ∧ (Instr.openLink [] 1).wf ref = true ∧
    (Instr.inputStateReport 0x1C [0x00, 0x34, 0x12]).wf ref = true := by decide
theorem witness_ReservedOpsRefused : (0 : BitVec 4).toNat = 0 ∧ 10 ≤ (10 : BitVec 4).toNat ∧
    (about (.request 10 Operands.zero)).currentTick.restart = false ∧
    (about (.request 10 Operands.zero)).params.validated = true ∧
    (about (.request 10 Operands.zero)).agenda = [.request 10 Operands.zero] := by decide
theorem witness_ReportFramesDecode : ref.startMarker = 0x02 ∧ ref.endMarker = 0x17 ∧ ref.opcDataReady = 0x30 ∧
    ref.opcOutputStateReport = 0x83 ∧ ref.opcInputStateReport = 0x87 ∧ ref.opcInputActivated = 0x88 := by decide
theorem witness_StepRunsDecodedInstruction : (about (encode ref .close)).currentTick.restart = false ∧
    (about (encode ref .close)).params.validated = true ∧
    (about (encode ref .close)).agenda = [encode ref .close] ∧
    decode ref (encode ref .close) = .instr .close ∧ Instr.close.wf ref = true ∧
    Params.validated { ref with pollIntervalMs := 0 } = false := by decide
theorem witness_EnvironmentBeforeStep :
    ({ opened works with ticks := [⟨3, true, some ⟨0x7A, []⟩, false⟩] } : State).currentTick.submitted =
      some ⟨0x7A, []⟩ ∧
    ({ opened works with ticks := [tick 3] } : State).currentTick.submitted = none := by decide
theorem witness_LineAgentDelivers :
    (lineAgentStep { opened works with lineIn := [⟨0, 0, 0x02⟩] }).rxfifo = [0x02] ∧
    (lineAgentStep { closed works with lineIn := [⟨0, 0, 0x02⟩] }).rxfifo = [] ∧
    (lineAgentStep { closed works with lineIn := [⟨0, 0, 0x02⟩] }).lineIn = [] ∧
    (opened works).lineIn = [] := by decide
theorem witness_ResetValues : 1 < ref.outCount ∧ (State.resetWith ref).outputs[1]? = some 0 ∧
    (State.resetWith ref).outputs[2]? = none ∧ 1 < ref.inCount := by decide
theorem witness_RestartResets :
    ({ opened works with ticks := [⟨0, false, none, true⟩] } : State).currentTick.restart = true := by decide
theorem witness_UnknownCommandIgnored :
    (about (.dispatchFrame [0x02, 0x1C, 0x99, 0x17, 0xCE])).currentTick.restart = false ∧
    (about (.dispatchFrame [0x02, 0x1C, 0x99, 0x17, 0xCE])).agenda =
      [.dispatchFrame [0x02, 0x1C, 0x99, 0x17, 0xCE]] ∧
    (about (.dispatchFrame [0x02, 0x1C, 0x99, 0x17, 0xCE])).params.validated = true ∧
    (decodeBuffer ref [0x02, 0x1C, 0x99, 0x17, 0xCE]).frame = some [0x02, 0x1C, 0x99, 0x17, 0xCE] ∧
    frameCommand [0x02, 0x1C, 0x99, 0x17, 0xCE] ∉ [ref.opcDataReady, ref.opcOutputStateReport,
      ref.opcInputStateReport, ref.opcInputActivated] := by decide
/-- Five bytes fit a `TX_MAX_LEN` of 5 and not one of 4. -/
theorem witness_EncodeAnswersFrame :
    after (.encode 0x1C 0x30 []) { closed works with params := bounded 5 } answer = some (some (.bytes token)) ∧
    refusal (.encode 0x1C 0x30 []) { closed works with params := bounded 4 } = some .frameTooLong := by decide
theorem witness_OpenAcquiresLink : (closed works).rxState ≠ .halted ∧ (closed works).linkOpen = false ∧
    (closed works).currentDraw.fail = false ∧ (closed (breaks 0)).currentDraw.fail = true := by decide
theorem witness_OpenCompletes : (closed works).rxState ≠ .halted ∧ (closed works).linkOpen = false ∧
    (closed works).currentDraw.fail = false := by decide
/-- A byte that is there, one that comes just at the deadline, and one that comes 1 ms after it. -/
theorem witness_ReadReturnsPendingBytes :
    (opened works).rxState ≠ .halted ∧ (opened works).linkOpen = true ∧
    (opened works).currentDraw.fail = false ∧ (opened (breaks 0)).currentDraw.fail = true ∧
    after (.readAvailable 20) { opened works with rxfifo := [0x02] } (fun t => (answer t, t.now)) =
      some (some (.bytes [0x02]), 0) ∧
    after (.readAvailable 20) { opened works with lineIn := [⟨20, 0, 0x02⟩] } (fun t => (answer t, t.now)) =
      some (some (.bytes [0x02]), 20) ∧
    after (.readAvailable 20) { opened works with lineIn := [⟨21, 0, 0x02⟩] } (fun t => (answer t, t.now)) =
      some (some (.bytes []), 20) := by decide
theorem witness_ReadFailureIsFatal : (opened (breaks 0)).rxState ≠ .halted ∧
    (opened (breaks 0)).linkOpen = true ∧ (opened (breaks 0)).shutdown = false ∧
    (opened (breaks 0)).currentDraw.fail = true := by decide
/-- Two bytes fit a `TX_MAX_LEN` of 2 and not one of 1; the device works, or fails. -/
theorem witness_WriteFramePutsBytesOnLine :
    after (.writeFrame [1, 2]) { opened works with params := bounded 2 } State.lineOut = some [1, 2] ∧
    after (.writeFrame [1, 2]) { opened (breaks 1) with params := bounded 2 } State.lineOut = some [1] ∧
    refusal (.writeFrame [1, 2]) { opened works with params := bounded 1 } = some .frameTooLong := by decide
theorem witness_FlushDrainsTransmitSide :
    after .flush { opened works with txfifo := [1, 2] } State.lineOut = some [1, 2] ∧
    after .flush { opened (breaks 1) with txfifo := [] } answer = some (some .ok) ∧
    after .flush { opened (breaks 1) with txfifo := [1, 2] } State.lineOut = some [1] := by decide
theorem witness_SendTransmitsEncodedFrame :
    after (.encode 0x1C 0x30 []) (opened works) answer = some (some (.bytes token)) ∧
    after (.send 0x1C 0x30 []) { opened works with params := bounded 5 } State.lineOut = some token ∧
    after (.send 0x1C 0x30 []) { opened (breaks 2) with params := bounded 5 } State.lineOut =
      some [0x02, 0x1C] ∧
    refusal (.send 0x1C 0x30 []) { opened works with params := bounded 4 } = some .frameTooLong := by decide
theorem witness_TransportPreconditions : ({ closed works with rxState := .halted } : State).rxState = .halted ∧
    (closed works).rxState ≠ .halted ∧ (closed works).linkOpen = false ∧ (closed works).shutdown = false ∧
    (opened works).linkOpen = true := by decide
/-- Three bytes where the buffer has room for two. -/
theorem witness_RxOverflowRefused :
    after (.readAvailable 0) { opened works with params := { ref with rxbufCap := some 2 }, rxfifo := [1, 2, 3] }
      answer = some (some (.bytes [1, 2, 3])) ∧
    refusal (.rxStep 0) { opened works with params := { ref with rxbufCap := some 2 }, rxfifo := [1, 2, 3] } =
      some .rxOverflow := by decide
/-- Nothing there; a chunk that just fits; 49 ms of silence; 50 ms. -/
theorem witness_RxStepAccumulatesThenDecodes :
    after (.readAvailable 3) (opened works) answer = some (some (.bytes [])) ∧
    after (.rxStep 3) (opened works) answer = some (some (.rxStep .idle none)) ∧
    after (.rxStep 3) { opened works with params := { ref with rxbufCap := some 1 }, rxfifo := [0x02] } answer =
      some (some (.rxStep .accumulating none)) ∧
    after (.rxStep 0) { opened works with rxbuf := [0x02], rxState := .framing, now := 49 } answer =
      some (some (.rxStep .accumulating none)) ∧
    after (.rxStep 0) { opened works with rxbuf := [0x02], rxState := .framing, now := 50 } answer =
      some (some (.rxStep (.decoded .incomplete) none)) := by decide
/-- An unbounded buffer; one that the chunk just fills; a shutdown with the link closed. -/
theorem witness_RxStepCompletes : (opened works).rxState ≠ .halted ∧ (opened works).linkOpen = true ∧
    rxOverflows (opened works).popDraw (readChunk 5 (opened works).popDraw) = false ∧
    rxOverflows ({ opened works with params := { ref with rxbufCap := some 1 }, rxfifo := [0x02] } : State).popDraw
      [0x02] = false ∧
    ({ closed works with shutdown := true } : State).shutdown = true := by
  decide
/-- `SILENCE_MS` of 1, where a step that reads does not decode, and of 0, where it does. -/
theorem witness_ReadingStepDoesNotDecode :
    after (.readAvailable 0) { opened works with rxfifo := [0x17] } answer = some (some (.bytes [0x17])) ∧
    after (.rxStep 0) { opened works with params := { ref with silenceMs := 1 }, rxfifo := [0x17] } answer =
      some (some (.rxStep .accumulating none)) ∧
    after (.rxStep 0) { opened works with params := { ref with silenceMs := 0 }, rxfifo := [0x17] } answer =
      some (some (.rxStep (.decoded .noStart) none)) := by decide
theorem witness_ShutdownHaltsAtRxStep : ({ opened works with shutdown := true } : State).rxState ≠ .halted ∧
    ({ opened works with shutdown := true } : State).shutdown = true := by decide
/-- A buffer with noise, a token and the start of another frame, 40 ms after the last byte. -/
def almostQuiet : State :=
  { opened works with
    rxbuf := [0xFF] ++ buildFrame ref 0x1C 0x30 [] ++ [0x02], rxState := .framing, tLastRx := 100, now := 140 }
/-- A wait of 10 makes up the last of the 50 ms. -/
theorem witness_QuietStepDeliversFrame :
    almostQuiet.rxState ≠ .halted ∧ almostQuiet.shutdown = false ∧ almostQuiet.linkOpen = true ∧
    almostQuiet.currentDraw.fail = false ∧ almostQuiet.rxfifo = [] ∧ almostQuiet.lineIn = [] ∧
    (0x1C : Byte) ≠ almostQuiet.params.endMarker ∧ (0x30 : Byte) ≠ almostQuiet.params.endMarker ∧
    almostQuiet.params.endMarker ∉ ([] : Bytes) ∧ almostQuiet.params.startMarker ∉ ([0xFF] : Bytes) ∧
    almostQuiet.rxbuf = [0xFF] ++ buildFrame almostQuiet.params 0x1C 0x30 [] ++ [0x02] ∧
    almostQuiet.tLastRx + almostQuiet.params.silenceMs ≤ almostQuiet.now + 10 ∧
    after (.rxStep 10) almostQuiet (fun t => (t.rxbuf, t.agenda)) =
      some ([0x02], [.dispatchFrame token]) := by decide
theorem witness_DataReadyTestsId : (0x1D : Byte) ≠ ref.hostPeerId ∧ (0x1C : Byte) = ref.hostPeerId ∧
    after (.dataReady 0x1C [])
      { opened works with pollCursor := ⟨0, true, some 0⟩ } State.events = some [.dataReady] := by decide
/-- A command waits; the device behaves by the draw `d`. -/
def waiting (d : Draw) : State := { opened d with pending := some ⟨0x7A, [0x01]⟩ }
theorem witness_TokenSendsPendingCommand :
    (waiting works).pending = some ⟨0x7A, [0x01]⟩ ∧ (waiting works).rxState ≠ .halted ∧
    (waiting works).linkOpen = true ∧
    (encodeFrame (waiting works).params (waiting works).params.controllerId 0x7A [0x01]).isSome = true ∧
    (waiting works).currentDraw.fail = false ∧ (waiting (breaks 2)).currentDraw.fail = true := by decide
/-- The last poll was at 5, exactly `POLL_INTERVAL_MS` ago; the phase is `b`, the module the last one. -/
def polling (b : Bool) : State := { opened works with pollCursor := ⟨1, b, some 5⟩, now := 1005 }
/-- A poll is due, in both phases; and the first poll is due with no timestamp at all. -/
theorem witness_TokenSendsDuePoll :
    (polling true).pending = none ∧ (polling true).rxState ≠ .halted ∧ (polling true).linkOpen = true ∧
    (polling true).pollCursor.currentModuleIndex = 1 ∧ 5 + (polling true).params.pollIntervalMs ≤ (polling true).now ∧
    (polling false).pending = none ∧ (polling false).rxState ≠ .halted ∧ (polling false).linkOpen = true ∧
    pollDue (polling false) = true ∧ (advancePoll (polling false)).pollCursor = ⟨0, true, some 1005⟩ ∧
    (advancePoll (polling true)).pollCursor = ⟨1, false, some 1005⟩ ∧ pollDue (opened works) = true := by decide
theorem witness_TokenSendsDuePoll_frame :
    (encodeFrame (polling true).params ref.controllerId ref.opcRequestOutputs
      (Config.requestOutputsPayload 1)).isSome = true ∧
    (encodeFrame (polling false).params ref.controllerId ref.opcRequestInputs
      (Config.requestInputsPayload 1)).isSome = true := ⟨rfl, rfl⟩
/-- One millisecond less than the interval. -/
theorem witness_TokenWithNothingDueSendsNothing :
    ({ opened works with pollCursor := ⟨0, true, some 5⟩, now := 1004 } : State).pending = none ∧
    ({ opened works with pollCursor := ⟨0, true, some 5⟩, now := 1004 } : State).now <
      5 + ref.pollIntervalMs := by decide
theorem witness_OutputReportStoresMask : (1 : Byte).toNat < (opened works).params.outCount := by decide
theorem witness_InputReportStoresMask : (1 : Byte).toNat < (opened works).params.inCount := by decide
theorem witness_ActivationEmitsEvent : ([0x02] : Bytes).length < 2 := by decide
/-- One byte less than a report needs; and the first module beyond the count. -/
theorem witness_MalformedReportIsOnlyCounted :
    ([0x00] : Bytes).length < 2 ∧ (opened works).params.outCount ≤ (([0x02, 0xFF] : Bytes).getD 0 0).toNat ∧
    ([0x00, 0x34] : Bytes).length < 3 ∧
    (opened works).params.inCount ≤ (([0x02, 0x34, 0x12] : Bytes).getD 0 0).toNat := by decide
theorem witness_QueuedCommandGoesOutAsItsFrame :
    (rowFrame ref (.setOutput 1 3 1)).isSome = true ∧ ref.txMaxLen = none ∧
    (opened works).rxState ≠ .halted ∧ (opened works).linkOpen = true ∧
    (opened works).currentDraw.fail = false ∧ (opened works).txfifo = [] := ⟨rfl, by decide⟩
/-- The last bit of the last module, and the first module beyond the count. -/
theorem witness_ModuleBitsReadBack : (opened works).TablesSized ∧ (0 : Nat) ≠ 1 ∧
    isOutputOn (setOutputMask 1 0x80 (opened works)) 1 7 = true ∧
    isOutputOn (setOutputMask 1 0x80 (opened works)) 1 8 = false ∧
    isInputOn (setInputMask 1 0x8000 (opened works)) 1 15 = true ∧
    isInputOn (setInputMask 1 0x8000 (opened works)) 1 16 = false ∧
    (opened works).params.outCount ≤ 2 ∧ (opened works).params.inCount ≤ 2 := by decide
/-- Two modules, four opportunities, from the last module, in both phases. -/
theorem witness_PollSchedulerIsFair :
    2 = max (opened works).params.outCount (opened works).params.inCount ∧ [1, 2, 3, 4].length = 2 * 2 ∧
    pollQueries [1, 2, 3, 4] { opened works with pollCursor := ⟨1, true, none⟩ } =
      [requestOutputsCommand ref 1, requestInputsCommand ref 1, requestOutputsCommand ref 0,
        requestInputsCommand ref 0] ∧
    pollQueries [1, 2, 3, 4] { opened works with pollCursor := ⟨1, false, none⟩ } =
      [requestInputsCommand ref 1, requestOutputsCommand ref 0, requestInputsCommand ref 0,
        requestOutputsCommand ref 1] := ⟨rfl, rfl, rfl, rfl⟩
/-- The invariant of a state with a fragment in the buffer, the link open, and a clock that has run. -/
theorem witness_StepKeepsInvariant_inv :
    State.Inv { opened works with rxbuf := [0x02], rxState := .framing, tLastRx := 5, now := 60 } where
  rxbufFits := fun _ h => by cases h
  sequencerRests := by decide
  haltedHasCause := by decide
  queuesRest := by decide
  tablesSized := by decide
  cursorInRange := by decide
  timesPast := ⟨fun _ => by decide, fun _ h => by cases h⟩
theorem witness_StepKeepsInvariant_step : ∃ t,
    step (placeAction (encode ref (.rxStep 0))
      { opened works with rxbuf := [0x02], rxState := .framing, tLastRx := 5, now := 60 }) = .next t ∧
    ref.validated = true := ⟨_, rfl, rfl⟩
theorem witness_ResetMeetsInvariant : ref.validated = true := by decide
theorem witness_OnlyTransmittersReachLine : ∃ t, exec .close (opened works) = .next t := ⟨_, rfl⟩
theorem witness_HaltedUntilReset : ∃ t,
    step (placeAction (encode ref .close) { closed works with rxState := .halted, err := .shutdown }) = .next t ∧
    t.rxState = .halted := ⟨_, rfl, rfl⟩
theorem witness_RecordsOnlyGrow : ∃ t,
    step (placeAction (encode ref .close) { closed works with rxState := .halted, err := .shutdown }) = .next t ∧
    State.HaltedHasCause { closed works with rxState := .halted, err := .shutdown } := ⟨_, rfl, by decide⟩
/-- A step that accumulates takes nothing off; one that decodes takes off the noise before `START`. -/
theorem witness_ReceiveOrderKept : (opened works).linkOpen = true ∧ (opened works).shutdown = false ∧
    (opened works).currentDraw.fail = false ∧
    after (.rxStep 0) { opened works with rxfifo := [0x02] } (fun t => (t.rxbuf, answer t)) =
      some ([0x02], some (.rxStep .accumulating none)) ∧
    after (.rxStep 0) { opened works with rxbuf := [0xFF, 0x02], now := 50 } (fun t => (t.rxbuf, answer t)) =
      some ([0x02], some (.rxStep (.decoded .incomplete) none)) := by decide

end Sys2Proof.Tests
end

