-- ==== Sys2Proof/Proofs/State.lean ====
section
/-! Proofs of the statements about the state: what one instruction can do (`Effect`), and from it the
invariant between steps, the records that only grow, and the bytes on the line. -/

namespace Sys2Proof.Machine

/-! ### What one instruction can do -/

/-- The instructions that may put bytes on the line: WRITE_FRAME, SEND, FLUSH, and a token for this host. -/
inductive Transmits (p : Params) : Instr → Prop
  | writeFrame (bytes : Bytes) : Transmits p (.writeFrame bytes)
  | send (id command : Byte) (payload : Bytes) : Transmits p (.send id command payload)
  | flush : Transmits p .flush
  | token (payload : Bytes) : Transmits p (.dataReady p.hostPeerId payload)

/-- The states an instruction can lead to, in terms of the shared operations, each with the part of its
precondition that later proofs need. -/
inductive Effect (i : Instr) (s : State) : State → Prop
  | stays : Effect i s s
  | answers (r : Result) : Effect i s (respond r s)
  | opens (a : Address) (b : Nat) (run : s.rxState ≠ .halted) :
      Effect i s (respond .ok (acquireLink a b s.popDraw))
  | fails (r : Result) (c : FatalCause) (run : s.rxState ≠ .halted) :
      Effect i s (respond r (fatalEntry c s.popDraw))
  | closes : Effect i s (respond .ok (closeLink s))
  | shutsDown (r : Result) (run : s.rxState ≠ .halted) : Effect i s (respond r (enterShutdown s))
  | reads (r : Result) (n : Nat) (run : s.rxState ≠ .halted) :
      Effect i s (respond r (readDone n s.popDraw))
  | receives (n : Nat) (run : s.rxState ≠ .halted)
      (fits : rxOverflows s.popDraw (readChunk n s.popDraw) = false) :
      Effect i s (finishRxStep (appendChunk (readChunk n s.popDraw) (readDone n s.popDraw)))
  | flushes (tx : Transmits s.params i) : Effect i s (respond .ok (lineFlush s.popDraw))
  | flushFails (tx : Transmits s.params i) (k : Nat) : Effect i s (writeFailure s.txfifo k s.popDraw)
  | writes (tx : Transmits s.params i) (b : Bytes) : Effect i s (writeOutcome b s)
  | sendsPending (tx : Transmits s.params i) (b : Bytes) :
      Effect i s (writeOutcome b (drainSlot (emit .dataReady s)))
  | sendsPoll (tx : Transmits s.params i) (b : Bytes) :
      Effect i s (writeOutcome b (advancePoll (emit .dataReady s)))
  | emits (e : Event) : Effect i s (emit e s)
  | storesOutputs (e : Event) (m : Nat) (mask : Byte) : Effect i s (emit e (setOutputMask m mask s))
  | storesInputs (e : Event) (m : Nat) (mask : InputMask) : Effect i s (emit e (setInputMask m mask s))
  | counts : Effect i s (countMalformed s)
  | queues (c : Command) : Effect i s (enqueue c s)

/-- An instruction that answers a next state has one of the effects. -/
theorem effect_of_exec {i : Instr} {s t : State} (h : exec i s = .next t) : Effect i s t := by
  cases i with
  | openLink a b =>
    obtain ⟨run, -, ⟨-, rfl⟩ | ⟨-, rfl⟩⟩ := execOpen_cases h
    · exact .fails _ _ run
    · exact .opens _ _ run
  | close => cases h; exact .closes
  | readAvailable n =>
    obtain ⟨run, -, ⟨-, rfl⟩ | ⟨-, rfl⟩⟩ := execReadAvailable_cases h
    · exact .fails _ _ run
    · exact .reads _ _ run
  | writeFrame b =>
    obtain ⟨-, -, -, rfl⟩ := transmit_eq_next.1 h
    exact .writes (.writeFrame _) _
  | flush =>
    obtain ⟨-, -, ⟨-, -, rfl⟩ | ⟨-, rfl⟩⟩ := execFlush_cases h
    · exact .flushFails .flush _
    · exact .flushes .flush
  | encode id command payload =>
    simp only [exec, execEncode] at h
    split at h
    · cases h
    · cases h; exact .answers _
  | decode buffer => cases h; exact .answers _
  | rxStep n =>
    obtain ⟨run, ⟨-, rfl⟩ | ⟨-, -, -, rfl⟩ | ⟨-, -, -, fits, rfl⟩⟩ := execRxStep_cases h
    · exact .shutsDown _ run
    · exact .fails _ _ run
    · exact .receives n run fits
  | send id command payload =>
    obtain ⟨-, -, -, rfl⟩ := sendFrame_eq_next.1 h
    exact .writes (.send _ _ _) _
  | dataReady id payload =>
    obtain ⟨-, rfl⟩ | ⟨rfl, ⟨-, rfl⟩ | ⟨-, -, b, ⟨-, rfl⟩ | ⟨-, rfl⟩⟩⟩ :=
      execDataReady_cases (payload := payload) h
    · exact .stays
    · exact .emits _
    · exact .sendsPending (.token _) b
    · exact .sendsPoll (.token _) b
  | outputStateReport id payload =>
    simp only [exec, execOutputStateReport, Host.Outcome.next.injEq] at h
    split at h <;> subst h
    · exact .storesOutputs _ _ _
    · exact .counts
  | inputStateReport id payload =>
    simp only [exec, execInputStateReport, Host.Outcome.next.injEq] at h
    split at h <;> subst h
    · exact .storesInputs _ _ _
    · exact .counts
  | inputActivated id payload =>
    simp only [exec, execInputActivated, Host.Outcome.next.injEq] at h
    split at h <;> subst h
    · exact .emits _
    · exact .counts
  | setOutput m o d => cases h; exact .queues _
  | requestOutputs m => cases h; exact .queues _
  | requestInputs m => cases h; exact .queues _

/-- A step that answers is a restart, or the environment's part and at most one instruction's effect. -/
theorem effect_of_step {s t : State} (h : step s = .next t) :
    (s.currentTick.restart = true ∧ t = restart (beginStep s)) ∨
    (s.currentTick.restart = false ∧ ∃ rest i, Effect i (setAgenda rest (beginStep s)) t) := by
  obtain hr | ⟨hr, ha, rfl⟩ | ⟨hr, a, rest, -, -, ⟨i, -, -, he⟩ | ⟨-, rfl⟩⟩ := step_cases h
  · exact .inl hr
  · have e : setAgenda [] (beginStep s) = beginStep s := by rw [← ha]; rfl
    exact .inr ⟨hr, [], .close, e.symm ▸ .stays⟩
  · exact .inr ⟨hr, rest, i, effect_of_exec he⟩
  · exact .inr ⟨hr, rest, .close, .stays⟩

/-! ### The environment's part of a step, and the reset values -/

/-- R29, R30, R195: the fields the environment's part of a step can change. -/
theorem beginStep_frame (s : State) :
    beginStep s =
      { s with
        now := (beginStep s).now, shutdown := (beginStep s).shutdown, pending := (beginStep s).pending,
        ticks := s.ticks.tail, ticksUsed := s.ticksUsed + 1, lineIn := (beginStep s).lineIn,
        rxfifo := (beginStep s).rxfifo } := rfl

/-- R136: on a closed link the bytes that arrive are dropped. -/
theorem beginStep_rxfifo_of_closed {s : State} (h : s.linkOpen = false) :
    (beginStep s).rxfifo = s.rxfifo := by
  simp [beginStep, h]

/-- Settles O18: each field by its lemma, the rest by `beginStep_frame`. -/
theorem environmentBeforeStep : Obligations.EnvironmentBeforeStep := by
  intro s
  refine ⟨?_, ?_, ?_, ?_, ?_, ?_, beginStep_frame s⟩
  · simp
  · simp
  · exact max_choice _ _
  · simp
  · intro c hc
    simp [hc]
  · intro hn
    simp [hn]

/-- Settles O20: the table of R31, whose two mask rows hold for every configured module. -/
theorem resetValues : Obligations.ResetValues := by
  intro p
  have outputs : ∀ m, m < p.outCount → (State.resetWith p).outputs[m]? = some 0 := fun m hm => by
    simp [State.resetWith, hm]
  have inputs : ∀ m, m < p.inCount → (State.resetWith p).inputs[m]? = some 0 := fun m hm => by
    simp [State.resetWith, hm]
  exact ⟨rfl, rfl, rfl, rfl, rfl, rfl, rfl, rfl, rfl, rfl, rfl, outputs, inputs, rfl, rfl, rfl⟩

/-! ### The invariant under each operation -/

/-- A state with every field the invariant does not read put to its reset value. -/
def State.invView (s : State) : State :=
  { State.resetWith s.params with
    rxbuf := s.rxbuf
    rxState := s.rxState
    err := s.err
    linkOpen := s.linkOpen
    tLastRx := s.tLastRx
    rxfifo := s.rxfifo
    txfifo := s.txfifo
    now := s.now
    outputs := s.outputs
    inputs := s.inputs
    pollCursor := s.pollCursor }

theorem inv_invView {s : State} : s.invView.Inv ↔ s.Inv :=
  ⟨fun ⟨fits, rests, cause, queues, sized, range, past⟩ =>
      ⟨fits, rests, cause, queues, sized, range, past⟩,
    fun ⟨fits, rests, cause, queues, sized, range, past⟩ =>
      ⟨fits, rests, cause, queues, sized, range, past⟩⟩

/-- The invariant does not see the fields outside `State.invView`. -/
theorem State.Inv.of_invView {s t : State} (h : s.Inv) (e : t.invView = s.invView) : t.Inv :=
  inv_invView.1 (e ▸ inv_invView.2 h)

/-- R21, R26, R29: time may pass, and an open link may receive. -/
theorem State.Inv.withLine {s : State} (h : s.Inv) {n : Nat} {f : Bytes} (later : s.now ≤ n)
    (closed : s.linkOpen = false → f = []) : State.Inv { s with now := n, rxfifo := f } where
  rxbufFits := h.rxbufFits
  sequencerRests := h.sequencerRests
  haltedHasCause := h.haltedHasCause
  queuesRest := ⟨closed, h.queuesRest.2⟩
  tablesSized := h.tablesSized
  cursorInRange := h.cursorInRange
  timesPast := ⟨fun hb => (h.timesPast.1 hb).trans later, fun u hu => (h.timesPast.2 u hu).trans later⟩

theorem State.Inv.beginStep {s : State} (h : s.Inv) : (beginStep s).Inv := by
  have closed : s.linkOpen = false → (Machine.beginStep s).rxfifo = [] := fun hc =>
    (beginStep_rxfifo_of_closed hc).trans (h.queuesRest.1 hc)
  exact (h.withLine (le_max_left s.now s.currentTick.reading) closed).of_invView rfl

/-- R124: the clock does not go back over a read. -/
theorem le_readDone_now (n : Nat) (s : State) : s.now ≤ (readDone n s).now :=
  (waitForBytes_now n s).1

theorem State.Inv.readDone {s : State} (h : s.Inv) (n : Nat) : (readDone n s).Inv :=
  (h.withLine (le_readDone_now n s) fun _ => rfl).of_invView
    ((congrArg State.invView (readDone_frame n s)).trans rfl)

theorem State.Inv.closeLink {s : State} (h : s.Inv) : (closeLink s).Inv where
  rxbufFits := h.rxbufFits
  sequencerRests := h.sequencerRests
  haltedHasCause := ⟨h.haltedHasCause.1, fun _ => rfl⟩
  queuesRest := ⟨fun _ => rfl, rfl⟩
  tablesSized := h.tablesSized
  cursorInRange := h.cursorInRange
  timesPast := h.timesPast

/-- R221, R226: the block may halt with a cause, its link closed. -/
theorem State.Inv.halt {s : State} (h : s.Inv) {e : ErrReg} (cause : e ≠ .noError) :
    State.Inv { Machine.closeLink s with err := e, rxState := .halted } where
  rxbufFits := h.rxbufFits
  sequencerRests := .inl rfl
  haltedHasCause := ⟨iff_of_true rfl cause, fun _ => rfl⟩
  queuesRest := ⟨fun _ => rfl, rfl⟩
  tablesSized := h.tablesSized
  cursorInRange := h.cursorInRange
  timesPast := h.timesPast

/-- R226: after a fatal entry `ERR` holds a cause. -/
theorem latchErr_register_ne_noError (old : ErrReg) (c : FatalCause) :
    latchErr old c.register ≠ .noError := by
  unfold latchErr
  split
  · cases c <;> simp [FatalCause.register]
  · assumption

theorem State.Inv.fatalEntry {s : State} (h : s.Inv) (c : FatalCause) : (fatalEntry c s).Inv :=
  (h.halt (latchErr_register_ne_noError s.err c)).of_invView rfl

theorem State.Inv.enterShutdown {s : State} (h : s.Inv) : (enterShutdown s).Inv :=
  h.halt (by decide)

theorem State.Inv.acquireLink {s : State} (h : s.Inv) (run : s.rxState ≠ .halted) (a : Address) (b : Nat) :
    (acquireLink a b s).Inv where
  rxbufFits := h.rxbufFits
  sequencerRests := h.sequencerRests
  haltedHasCause := ⟨h.haltedHasCause.1, fun halted => absurd halted run⟩
  queuesRest := ⟨fun _ => rfl, rfl⟩
  tablesSized := h.tablesSized
  cursorInRange := h.cursorInRange
  timesPast := h.timesPast

theorem restingState_ne_halted (b : Bytes) : restingState b ≠ .halted := by
  unfold restingState
  split <;> simp

/-- R10, R21, R150: a running sequencer may hold any buffer that fits, received in the past, if it rests. -/
theorem State.Inv.withBuffer {s : State} (h : s.Inv) (run : s.rxState ≠ .halted) {b : Bytes} {u : Nat}
    (fits : ∀ cap, s.params.rxbufCap = some cap → b.length ≤ cap) (past : b ≠ [] → u ≤ s.now) :
    State.Inv { s with rxbuf := b, tLastRx := u, rxState := restingState b } where
  rxbufFits := fits
  sequencerRests := .inr rfl
  haltedHasCause :=
    ⟨iff_of_false (restingState_ne_halted b) fun cause => run (h.haltedHasCause.1.2 cause),
      fun halted => absurd halted (restingState_ne_halted b)⟩
  queuesRest := h.queuesRest
  tablesSized := h.tablesSized
  cursorInRange := h.cursorInRange
  timesPast := ⟨past, h.timesPast.2⟩

/-- R162: what it is for a chunk to fit the accumulation buffer. -/
theorem rxOverflows_eq_false {s : State} {c : Bytes} :
    rxOverflows s c = false ↔
      ∀ cap, s.params.rxbufCap = some cap → c = [] ∨ s.rxbuf.length + c.length ≤ cap := by
  unfold rxOverflows
  cases s.params.rxbufCap with
  | none => simp
  | some cap => by_cases hc : c = [] <;> simp [hc]

/-- R153, R162: a chunk that fits may be appended. -/
theorem State.Inv.appendChunk {s : State} (h : s.Inv) (run : s.rxState ≠ .halted) {c : Bytes}
    (fits : rxOverflows s c = false) : (appendChunk c s).Inv := by
  by_cases hc : c = []
  · simpa [Machine.appendChunk, hc] using h
  · have bounded : ∀ cap, s.params.rxbufCap = some cap → (s.rxbuf ++ c).length ≤ cap := fun cap hcap => by
      simpa using (rxOverflows_eq_false.1 fits cap hcap).resolve_left hc
    refine (h.withBuffer run bounded fun _ => le_refl s.now).of_invView ?_
    simp [Machine.appendChunk, restingState, hc, State.invView]

/-- R57, R150: at its end RX_STEP leaves some rear part of `RXBUF`, and rests. -/
theorem finishRxStep_invView {s : State} (rests : s.rxState = restingState s.rxbuf) :
    ∃ k, (finishRxStep s).invView =
      State.invView { s with rxbuf := s.rxbuf.drop k, rxState := restingState (s.rxbuf.drop k) } := by
  obtain ⟨⟨k, hk⟩, -, -, hr⟩ := finishRxStep_records s
  have rests' : (finishRxStep s).rxState = restingState (finishRxStep s).rxbuf := by
    obtain hr | ⟨hr, hb, -⟩ := hr
    · exact hr
    · rw [hr, hb, rests]
  refine ⟨k, ?_⟩
  rw [← hk, ← rests']
  exact (congrArg State.invView (finishRxStep_frame s)).trans rfl

theorem State.Inv.finishRxStep {s : State} (h : s.Inv) (run : s.rxState ≠ .halted) :
    (finishRxStep s).Inv := by
  obtain ⟨k, e⟩ := finishRxStep_invView (h.sequencerRests.resolve_left run)
  have fits : ∀ cap, s.params.rxbufCap = some cap → (s.rxbuf.drop k).length ≤ cap := fun cap hcap =>
    (List.drop_sublist k s.rxbuf).length_le.trans (h.rxbufFits cap hcap)
  have past : s.rxbuf.drop k ≠ [] → s.tLastRx ≤ s.now := fun hb =>
    h.timesPast.1 fun empty => hb (by simp [empty])
  exact (h.withBuffer run fits past).of_invView e

/-- R153: what a read leaves of the state does not change whether a chunk overflows. -/
theorem rxOverflows_readDone (n : Nat) (s : State) (c : Bytes) :
    rxOverflows (readDone n s) c = rxOverflows s c := by
  rw [readDone_frame]
  rfl

theorem readDone_rxState (n : Nat) (s : State) : (readDone n s).rxState = s.rxState := by
  rw [readDone_frame]

/-- R153: after a chunk is appended a block that ran still runs. -/
theorem appendChunk_rxState_ne_halted {s : State} (run : s.rxState ≠ .halted) (c : Bytes) :
    (appendChunk c s).rxState ≠ .halted := by
  unfold appendChunk
  split
  · exact run
  · simp

/-- R127, R128: a write leaves nothing buffered, as it was before. -/
theorem State.Inv.writeOutcome {s : State} (h : s.Inv) (b : Bytes) : (writeOutcome b s).Inv := by
  have e : (Machine.writeOutcome b s).invView = State.invView { s with txfifo := [] } :=
    (congrArg State.invView (writeOutcome_frame b s)).trans rfl
  exact h.of_invView (e.trans (by rw [← h.queuesRest.2]))

theorem State.Inv.lineFlush {s : State} (h : s.Inv) : (lineFlush s).Inv :=
  h.of_invView (by simp [State.invView, h.queuesRest.2])

theorem State.Inv.writeFailure {s : State} (h : s.Inv) (b : Bytes) (k : Nat) :
    (writeFailure b k s).Inv :=
  h.of_invView (by simp [Machine.writeFailure, State.invView, h.queuesRest.2])

/-- R191: `NextPoll` moves the cursor within the modules and records the present time. -/
theorem State.Inv.advancePoll {s : State} (h : s.Inv) : (advancePoll s).Inv where
  rxbufFits := h.rxbufFits
  sequencerRests := h.sequencerRests
  haltedHasCause := h.haltedHasCause
  queuesRest := h.queuesRest
  tablesSized := h.tablesSized
  cursorInRange := by
    have range := h.cursorInRange
    have wraps := Nat.mod_lt (s.pollCursor.currentModuleIndex + 1) (Nat.zero_lt_of_lt range)
    simp only [State.CursorInRange, Machine.advancePoll]
    split
    · exact range
    · exact wraps
  timesPast := ⟨h.timesPast.1, fun u hu => by cases hu; exact le_refl s.now⟩

theorem State.Inv.setOutputMask {s : State} (h : s.Inv) (m : Nat) (mask : Byte) :
    (setOutputMask m mask s).Inv where
  rxbufFits := h.rxbufFits
  sequencerRests := h.sequencerRests
  haltedHasCause := h.haltedHasCause
  queuesRest := h.queuesRest
  tablesSized := ⟨by rw [setOutputMask_outputs]; split <;> simp [h.tablesSized.1], h.tablesSized.2⟩
  cursorInRange := h.cursorInRange
  timesPast := h.timesPast

theorem State.Inv.setInputMask {s : State} (h : s.Inv) (m : Nat) (mask : InputMask) :
    (setInputMask m mask s).Inv where
  rxbufFits := h.rxbufFits
  sequencerRests := h.sequencerRests
  haltedHasCause := h.haltedHasCause
  queuesRest := h.queuesRest
  tablesSized := ⟨h.tablesSized.1, by rw [setInputMask_inputs]; split <;> simp [h.tablesSized.2]⟩
  cursorInRange := h.cursorInRange
  timesPast := h.timesPast

/-! ### The invariant over reset, instructions and steps -/

/-- R31, R197: with a module configured, the reset state is a good one. -/
theorem resetWith_inv {p : Params} (valid : p.validated = true) : (State.resetWith p).Inv where
  rxbufFits := fun _ _ => Nat.zero_le _
  sequencerRests := .inr rfl
  haltedHasCause := by simp [State.HaltedHasCause, State.resetWith]
  queuesRest := ⟨fun _ => rfl, rfl⟩
  tablesSized := by simp [State.TablesSized, State.resetWith]
  cursorInRange := by
    simp only [Params.validated, Bool.and_eq_true, decide_eq_true_eq] at valid
    exact lt_max_of_lt_left valid.1.1
  timesPast := ⟨fun hb => absurd rfl hb, fun _ hu => by cases hu⟩

/-- Settles O53: the counts and the interval of this machine are positive by their form. -/
theorem resetMeetsInvariant : Obligations.ResetMeetsInvariant :=
  ⟨resetWith_inv (by simp [Params.validated, Config.params]), fun _ => resetWith_inv⟩

/-- R240: a restart leads to the reset state at the present time. -/
theorem restart_inv {s : State} (valid : s.params.validated = true) : (restart s).Inv :=
  ((resetWith_inv valid).withLine (Nat.zero_le s.now) fun _ => rfl).of_invView rfl

/-- Every effect of an instruction keeps the invariant. -/
theorem Effect.inv {i : Instr} {s t : State} (e : Effect i s t) (h : s.Inv) : t.Inv := by
  have drawn : s.popDraw.Inv := h.of_invView rfl
  have told : (emit .dataReady s).Inv := h.of_invView rfl
  cases e with
  | stays => exact h
  | opens a b run => exact (drawn.acquireLink run a b).of_invView rfl
  | fails r c => exact (drawn.fatalEntry c).of_invView rfl
  | closes => exact h.closeLink.of_invView rfl
  | shutsDown => exact h.enterShutdown.of_invView rfl
  | reads r n => exact (drawn.readDone n).of_invView rfl
  | receives n run fits =>
    have run' : (readDone n s.popDraw).rxState ≠ .halted := by rwa [readDone_rxState]
    have fits' := (rxOverflows_readDone n s.popDraw _).trans fits
    exact ((drawn.readDone n).appendChunk run' fits').finishRxStep (appendChunk_rxState_ne_halted run' _)
  | flushes => exact drawn.lineFlush.of_invView rfl
  | flushFails tx k => exact drawn.writeFailure s.txfifo k
  | writes tx b => exact h.writeOutcome b
  | sendsPending tx b => exact (told.of_invView rfl : (drainSlot (emit .dataReady s)).Inv).writeOutcome b
  | sendsPoll tx b => exact told.advancePoll.writeOutcome b
  | storesOutputs ev m mask => exact (h.setOutputMask m mask).of_invView rfl
  | storesInputs ev m mask => exact (h.setInputMask m mask).of_invView rfl
  | answers | emits | counts | queues => exact h.of_invView rfl

/-- Settles O52: a step is a restart, or the environment's part and at most one effect. -/
theorem stepKeepsInvariant : Obligations.StepKeepsInvariant := by
  intro s t valid h hstep
  obtain ⟨-, rfl⟩ | ⟨-, rest, i, e⟩ := effect_of_step hstep
  · exact restart_inv valid
  · exact e.inv (h.beginStep.of_invView rfl)

/-! ### The records that only grow -/

/-- R16, R17, R24, R28, R29, R30, R243: `t` has the parameters of `s`, is not before it, and has lost nothing
of its records. -/
structure State.GrowsTo (s t : State) : Prop where
  params : t.params = s.params
  now : s.now ≤ t.now
  log : s.log <+: t.log
  events : s.events <+: t.events
  lineOut : s.lineOut <+: t.lineOut
  cntMalformed : s.cntMalformed ≤ t.cntMalformed
  shutdown : s.shutdown = true → t.shutdown = true

theorem State.GrowsTo.trans {s t u : State} (h : s.GrowsTo t) (k : t.GrowsTo u) : s.GrowsTo u where
  params := k.params.trans h.params
  now := h.now.trans k.now
  log := h.log.trans k.log
  events := h.events.trans k.events
  lineOut := h.lineOut.trans k.lineOut
  cntMalformed := h.cntMalformed.trans k.cntMalformed
  shutdown := k.shutdown ∘ h.shutdown

theorem beginStep_grows (s : State) : s.GrowsTo (beginStep s) := by
  constructor <;> simp +contextual

theorem readDone_grows (n : Nat) (s : State) : s.GrowsTo (readDone n s) := by
  have later := le_readDone_now n s
  rw [readDone_frame]
  constructor <;> simp [later]

theorem appendChunk_grows (c : Bytes) (s : State) : s.GrowsTo (appendChunk c s) := by
  rw [appendChunk_frame]
  constructor <;> simp

theorem finishRxStep_grows (s : State) : s.GrowsTo (finishRxStep s) := by
  obtain ⟨-, log, cnt, -⟩ := finishRxStep_records s
  rw [finishRxStep_frame]
  constructor <;> simp [log, cnt]

theorem writeOutcome_grows (b : Bytes) (s : State) : s.GrowsTo (writeOutcome b s) := by
  cases d : s.currentDraw.fail with
  | true => rw [writeOutcome_of_fails d]; constructor <;> simp
  | false => rw [writeOutcome_of_works d]; constructor <;> simp

/-- Every effect of an instruction only adds to the records. -/
theorem Effect.grows {i : Instr} {s t : State} (e : Effect i s t) : s.GrowsTo t := by
  have drawn : s.GrowsTo s.popDraw := by constructor <;> simp
  have answered : ∀ {u : State} (r : Result), s.GrowsTo u → s.GrowsTo (respond r u) := fun r h =>
    h.trans (by constructor <;> simp)
  cases e with
  | reads r n => exact answered r (drawn.trans (readDone_grows n _))
  | receives n =>
    exact ((drawn.trans (readDone_grows n _)).trans (appendChunk_grows _ _)).trans (finishRxStep_grows _)
  | flushFails tx k => constructor <;> simp [writeFailure]
  | writes tx b => exact writeOutcome_grows b s
  | sendsPending tx b | sendsPoll tx b =>
    exact State.GrowsTo.trans (by constructor <;> simp) (writeOutcome_grows b _)
  | _ => constructor <;> simp

theorem writeOutcome_err (b : Bytes) (s : State) : (writeOutcome b s).err = s.err := by
  rw [writeOutcome_frame]

/-- R17, R226: in a halted block no instruction writes `ERR`. -/
theorem Effect.err_of_halted {i : Instr} {s t : State} (e : Effect i s t) (halted : s.rxState = .halted) :
    t.err = s.err := by
  cases e with
  | fails _ _ run | shutsDown _ run | reads _ _ run | receives _ run => exact absurd halted run
  | flushFails => rfl
  | writes | sendsPending | sendsPoll => simp [writeOutcome_err]
  | _ => simp

/-- Settles O56: a restart keeps the parameters and the clock, and every other step only adds to the
records; a block with a cause in `ERR` is halted, where nothing writes `ERR`. -/
theorem recordsOnlyGrow : Obligations.RecordsOnlyGrow := by
  intro s t h
  have begun := beginStep_grows s
  obtain ⟨hr, rfl⟩ | ⟨-, rest, i, e⟩ := effect_of_step h
  · exact ⟨rfl, begun.now, fun noRestart => by simp [hr] at noRestart⟩
  · have placed : s.GrowsTo (setAgenda rest (beginStep s)) := begun.trans (by constructor <;> simp)
    obtain ⟨params, now, log, events, lineOut, cnt, shutdown⟩ := placed.trans e.grows
    exact ⟨params, now, fun _ => ⟨log, events, lineOut, cnt, shutdown,
      fun ⟨haltedIff, _⟩ cause => e.err_of_halted (haltedIff.2 cause)⟩⟩

/-! ### The bytes on the line -/

theorem readDone_lineOut (n : Nat) (s : State) : (readDone n s).lineOut = s.lineOut := by
  rw [readDone_frame]

theorem appendChunk_lineOut (c : Bytes) (s : State) : (appendChunk c s).lineOut = s.lineOut := by
  rw [appendChunk_frame]

theorem finishRxStep_lineOut (s : State) : (finishRxStep s).lineOut = s.lineOut := by
  rw [finishRxStep_frame]

/-- R28, R129: an instruction that does not transmit leaves `LINE_OUT` alone. -/
theorem Effect.lineOut_of_not_transmits {i : Instr} {s t : State} (e : Effect i s t)
    (silent : ¬ Transmits s.params i) : t.lineOut = s.lineOut := by
  cases e with
  | reads | receives => simp [finishRxStep_lineOut, appendChunk_lineOut, readDone_lineOut]
  | flushes tx | flushFails tx | writes tx | sendsPending tx | sendsPoll tx => exact absurd tx silent
  | _ => simp

/-- Settles O54: `LINE_OUT` is one of the records that only grow, and the four premises rule out every
instruction that transmits. -/
theorem onlyTransmittersReachLine : Obligations.OnlyTransmittersReachLine := by
  intro i s t h
  have e := effect_of_exec h
  refine ⟨e.grows.lineOut, fun noWrite noSend noFlush noToken => e.lineOut_of_not_transmits fun tx => ?_⟩
  cases tx with
  | writeFrame bytes => exact noWrite bytes rfl
  | send id command payload => exact noSend id command payload rfl
  | flush => exact noFlush rfl
  | token payload => exact noToken payload rfl

end Sys2Proof.Machine
end

section
/-! Proofs of the statements about the step and the receive path: a step runs the decoded instruction after the
environment's part, and received bytes keep their order from the line to the front of `RXBUF`. -/

namespace Sys2Proof

/-- R7: a least index is a position of the sequence. -/
theorem leastIndex_lt_length {b : Byte} {l : Bytes} {n : Nat} (h : leastIndex b l = some n) :
    n < l.length := by
  obtain ⟨front, back, rfl, -, rfl⟩ := leastIndex_eq_some.1 h
  simp

/-- R104: DECODE reports no more bytes as consumed than the buffer holds. -/
theorem decodeBuffer_consumed_le (p : Params) (b : Bytes) : (decodeBuffer p b).consumed ≤ b.length := by
  unfold decodeBuffer
  split
  · exact le_rfl
  · rename_i i start
    have noiseFits : i ≤ b.length := (leastIndex_lt_length start).le
    split
    · exact noiseFits
    · split
      · rw [judgeCandidate_consumed]
        omega
      · exact noiseFits

end Sys2Proof

namespace Sys2Proof.Machine

/-! ### The step -/

/-- R51: with nothing on the agenda a step is the environment's part alone. -/
theorem step_of_agenda_nil {s : State} (noRestart : s.currentTick.restart = false) (idle : s.agenda = []) :
    step s = .next (beginStep s) := by
  simp [step, turn, hostTurn, noRestart, idle]

/-- R51: a host with a valid configuration issues the first entry of its agenda. -/
theorem step_of_agenda_cons {s : State} {a : HostAction} {rest : List HostAction}
    (noRestart : s.currentTick.restart = false) (first : s.agenda = a :: rest)
    (valid : s.params.validated = true) : step s = issue a (setAgenda rest (beginStep s)) := by
  simp [step, turn, hostTurn, noRestart, first, valid]

/-- R248: a host with an invalid configuration issues nothing. -/
theorem step_of_invalid {s : State} {a : HostAction} {rest : List HostAction}
    (noRestart : s.currentTick.restart = false) (first : s.agenda = a :: rest)
    (invalid : s.params.validated = false) : step s = .refused .invalidConfiguration := by
  simp [step, turn, hostTurn, noRestart, first, invalid]

/-- R71: what decodes to a well-formed instruction is issued as that instruction. -/
theorem issue_of_decode {a : HostAction} {s : State} {i : Instr} (decoded : decode s.params a = .instr i)
    (wf : i.wf s.params = true) : issue a s = exec i s := by
  simp [issue, decoded, wf]

/-- Settles O17: the step by the shape of the agenda, then `issue` of what decodes. -/
theorem stepRunsDecodedInstruction : Obligations.StepRunsDecodedInstruction := by
  intro s noRestart
  refine ⟨step_of_agenda_nil noRestart, fun a rest first =>
    ⟨step_of_invalid noRestart first, fun i valid decoded wf => ?_⟩⟩
  calc step s = issue a (setAgenda rest (beginStep s)) := step_of_agenda_cons noRestart first valid
    _ = exec i (setAgenda rest (beginStep s)) := issue_of_decode decoded wf

/-! ### The way of a received byte -/

/-- R136: the environment's part of a step only moves bytes from the line to the back of `RXFIFO`. -/
theorem beginStep_bytes (s : State) (o : s.linkOpen = true) :
    (beginStep s).rxfifo ++ (beginStep s).lineIn.map Arrival.byte =
      s.rxfifo ++ s.lineIn.map Arrival.byte :=
  deliver_bytes _ o

/-- R45, R124: a read returns the front of what `RXFIFO` and the line hold, and the line keeps the rest. -/
theorem readChunk_append_readDone_lineIn (n : Nat) (s : State) (o : s.linkOpen = true) :
    readChunk n s ++ (readDone n s).lineIn.map Arrival.byte = s.rxfifo ++ s.lineIn.map Arrival.byte :=
  waitForBytes_bytes n s o

theorem readDone_params (n : Nat) (s : State) : (readDone n s).params = s.params := by
  rw [readDone_frame]

theorem readDone_rxbuf (n : Nat) (s : State) : (readDone n s).rxbuf = s.rxbuf := by
  rw [readDone_frame]

theorem appendChunk_params (c : Bytes) (s : State) : (appendChunk c s).params = s.params := by
  rw [appendChunk_frame]

theorem appendChunk_rxbuf (c : Bytes) (s : State) : (appendChunk c s).rxbuf = s.rxbuf ++ c := by
  rw [appendChunk_frame]

theorem appendChunk_rxfifo (c : Bytes) (s : State) : (appendChunk c s).rxfifo = s.rxfifo := by
  rw [appendChunk_frame]

theorem appendChunk_lineIn (c : Bytes) (s : State) : (appendChunk c s).lineIn = s.lineIn := by
  rw [appendChunk_frame]

theorem finishRxStep_rxfifo (s : State) : (finishRxStep s).rxfifo = s.rxfifo := by
  rw [finishRxStep_frame]

theorem finishRxStep_lineIn (s : State) : (finishRxStep s).lineIn = s.lineIn := by
  rw [finishRxStep_frame]

/-- R57, R153: how many bytes the end of RX_STEP takes off the front of `RXBUF`, and the answer that goes
with it: none where it rests or accumulates, what DECODE consumed where it decodes. -/
theorem finishRxStep_takes_front (s : State) :
    ∃ k, k ≤ s.rxbuf.length ∧ (finishRxStep s).rxbuf = s.rxbuf.drop k ∧
      (k = 0 ∧ ((finishRxStep s).response = some ⟨.rxStep .idle none, (finishRxStep s).status⟩ ∨
          (finishRxStep s).response = some ⟨.rxStep .accumulating none, (finishRxStep s).status⟩) ∨
        k = (decodeBuffer s.params s.rxbuf).consumed ∧
          (finishRxStep s).response = some ⟨.rxStep (.decoded (decodeBuffer s.params s.rxbuf).status)
            (decodeBuffer s.params s.rxbuf).frame, (finishRxStep s).status⟩) := by
  obtain ⟨-, e⟩ | ⟨-, -, e⟩ | ⟨-, -, e⟩ := finishRxStep_cases s <;> rw [e]
  · exact ⟨0, Nat.zero_le _, rfl, .inl ⟨rfl, .inl rfl⟩⟩
  · exact ⟨0, Nat.zero_le _, rfl, .inl ⟨rfl, .inr rfl⟩⟩
  · exact ⟨_, decodeBuffer_consumed_le _ _, congrArg State.rxbuf (decodeInStep_eq s),
      .inr ⟨rfl, decodeInStep_response s⟩⟩

/-- R49: the chunk of an RX_STEP, then `RXFIFO` and the line as it leaves them, are the bytes that were there. -/
theorem readChunk_append_rxStep_line (n : Nat) (s : State) (o : s.linkOpen = true) :
    readChunk n s ++ ((finishRxStep (appendChunk (readChunk n s) (readDone n s))).rxfifo ++
        (finishRxStep (appendChunk (readChunk n s) (readDone n s))).lineIn.map Arrival.byte) =
      s.rxfifo ++ s.lineIn.map Arrival.byte := by
  have emptied : (readDone n s).rxfifo = [] := rfl
  rw [finishRxStep_rxfifo, finishRxStep_lineIn, appendChunk_rxfifo, appendChunk_lineIn, emptied,
    List.nil_append]
  exact readChunk_append_readDone_lineIn n s o

/-- Settles O57: a good RX_STEP reads, appends its chunk and finishes; the read takes the chunk off the front
of the line, and the end takes `k` bytes off the front of `RXBUF`. -/
theorem receiveOrderKept : Obligations.ReceiveOrderKept := by
  refine ⟨fun s o => ⟨rfl, beginStep_bytes s o⟩, ?_⟩
  rintro s t n buf h running works rfl
  obtain ⟨-, ⟨down, -⟩ | ⟨-, -, fails, -⟩ | ⟨-, o, -, -, rfl⟩⟩ := execRxStep_cases h
  · simp [running] at down
  · simp [works] at fails
  · constructor
    · rw [List.append_assoc, readChunk_append_rxStep_line n s.popDraw o, popDraw_rxfifo, popDraw_lineIn]
    · have taken := finishRxStep_takes_front (appendChunk (readChunk n s.popDraw) (readDone n s.popDraw))
      rwa [appendChunk_rxbuf, readDone_rxbuf, appendChunk_params, readDone_params] at taken

end Sys2Proof.Machine
end

section
/-! Proofs of the statements about the encoding: the frame codec's round trip, the decoder on what the encoder
presents, the op codes that select no operation, and the frame that a queued command goes out as. -/

namespace Sys2Proof

/-! ### The fields of a built frame -/

theorem buildFrame_eq (p : Params) (id command : Byte) (payload : Bytes) :
    buildFrame p id command payload =
      p.startMarker :: ((id :: command :: payload) ++
        [p.endMarker, checksum (frameBody p id command payload)]) := by
  simp [buildFrame, frameBody]

@[simp] theorem frameId_buildFrame (p : Params) (id command : Byte) (payload : Bytes) :
    frameId (buildFrame p id command payload) = id := by
  rw [buildFrame_eq]
  rfl

@[simp] theorem frameCommand_buildFrame (p : Params) (id command : Byte) (payload : Bytes) :
    frameCommand (buildFrame p id command payload) = command := by
  rw [buildFrame_eq]
  rfl

@[simp] theorem framePayload_buildFrame (p : Params) (id command : Byte) (payload : Bytes) :
    framePayload (buildFrame p id command payload) = payload := by
  unfold framePayload slice
  rw [Machine.length_buildFrame, buildFrame_eq]
  simp

/-- R106: the premise that no field holds `END`, as one about the bytes between the markers. -/
theorem fieldsAvoidEnd_iff {p : Params} {id command : Byte} {payload : Bytes} :
    fieldsAvoidEnd p id command payload = true ↔ p.endMarker ∉ id :: command :: payload := by
  simp [fieldsAvoidEnd, and_assoc, @eq_comm _ p.endMarker]

/-! ### DECODE of a built frame -/

/-- R100, R101: the first `START`, the first `END` behind it and one byte more make a candidate. -/
theorem decodeBuffer_of_candidate {p : Params} {noise mid : Bytes} (ck : Byte) (rest : Bytes)
    (start : p.startMarker ∉ noise) (stop : p.endMarker ∉ mid) :
    decodeBuffer p (noise ++ p.startMarker :: (mid ++ p.endMarker :: ck :: rest)) =
      judgeCandidate (p.startMarker :: (mid ++ [p.endMarker, ck])) (noise.length + mid.length + 3) := by
  have cut : (mid ++ p.endMarker :: ck :: rest).take (mid.length + 2) = mid ++ [p.endMarker, ck] := by
    simp [List.take_append]
  rw [decodeBuffer_of_start p noise _ start, leastIndex_append stop]
  simp [cut]

/-- R93: a built frame passes both tests, whatever its fields hold. -/
theorem judgeCandidate_buildFrame (p : Params) (id command : Byte) (payload : Bytes) (n : Nat) :
    judgeCandidate (buildFrame p id command payload) n =
      { status := .frameOk, frame := some (buildFrame p id command payload), consumed := n } := by
  have longEnough : ¬ payload.length + 4 + 1 < 5 := by omega
  unfold buildFrame
  rw [judgeCandidate_append, Machine.length_frameBody, if_neg (not_not.2 rfl), if_neg longEnough]

/-- R106: the round trip, with noise before the frame and any bytes after it. -/
theorem decodeBuffer_buildFrame {p : Params} {id command : Byte} {payload noise : Bytes} (rest : Bytes)
    (start : p.startMarker ∉ noise) (avoids : fieldsAvoidEnd p id command payload = true) :
    decodeBuffer p (noise ++ buildFrame p id command payload ++ rest) =
      { status := .frameOk, frame := some (buildFrame p id command payload),
        consumed := noise.length + (buildFrame p id command payload).length } := by
  have cut := decodeBuffer_of_candidate (checksum (frameBody p id command payload)) rest start
    (fieldsAvoidEnd_iff.1 avoids)
  rw [← buildFrame_eq, judgeCandidate_buildFrame] at cut
  rw [buildFrame_eq] at cut ⊢
  simpa [Nat.add_assoc] using cut

/-! ### The decoder -/

/-- R65, R176: a built frame without `END` in its fields reaches the dispatch table. -/
theorem decode_dispatchFrame_buildFrame {p : Params} {id command : Byte} {payload : Bytes}
    (avoids : fieldsAvoidEnd p id command payload = true) :
    decode p (.dispatchFrame (buildFrame p id command payload)) =
      classifyFrame p (buildFrame p id command payload) := by
  have whole := decodeBuffer_buildFrame (noise := []) [] List.not_mem_nil avoids
  rw [List.nil_append, List.append_nil] at whole
  simp [decode, decodeDispatch, whole]

/-- R70: the request of an operation is decoded to that operation, with every operand. -/
theorem decode_encode_of_opCode (p : Params) {i : Instr} {c : BitVec 4} (isOp : opCode i = some c) :
    decode p (encode p i) = .instr i := by
  cases i with
  | dataReady | outputStateReport | inputStateReport | inputActivated
  | setOutput | requestOutputs | requestInputs => cases isOp
  | _ => rfl

/-- Settles O13: an operation comes back from its request, an outbound command from its call, and an inbound
frame through the round trip of the codec, its command byte selecting its own row since the four differ. -/
theorem decodeEncodeAgree : Obligations.DecodeEncodeAgree := by
  intro p i distinct wf
  simp only [Params.inboundDistinct, decide_eq_true_eq, List.nodup_cons, List.mem_cons, List.not_mem_nil,
    or_false, not_or] at distinct
  obtain ⟨⟨ready_ne_out, ready_ne_in, ready_ne_act⟩, ⟨out_ne_in, out_ne_act⟩, in_ne_act, -⟩ := distinct
  cases i with
  | dataReady => exact (decode_dispatchFrame_buildFrame wf).trans (by simp [classifyFrame])
  | outputStateReport =>
    exact (decode_dispatchFrame_buildFrame wf).trans (by simp [classifyFrame, Ne.symm ready_ne_out])
  | inputStateReport =>
    exact (decode_dispatchFrame_buildFrame wf).trans
      (by simp [classifyFrame, Ne.symm ready_ne_in, Ne.symm out_ne_in])
  | inputActivated =>
    exact (decode_dispatchFrame_buildFrame wf).trans
      (by simp [classifyFrame, Ne.symm ready_ne_act, Ne.symm out_ne_act, Ne.symm in_ne_act])
  | setOutput | requestOutputs | requestInputs => rfl
  | _ => exact decode_encode_of_opCode p rfl

/-- R75: the op codes that select no operation. -/
theorem decodeRequest_eq_reservedOp_iff {op : BitVec 4} {a : Operands} :
    decodeRequest op a = .rejected .reservedOp ↔ op.toNat = 0 ∨ 10 ≤ op.toNat := by
  unfold decodeRequest
  match op.toNat with
  | 0 => exact iff_of_true rfl (.inl rfl)
  | 1 | 2 | 3 | 4 | 5 | 6 | 7 | 8 | 9 => exact iff_of_false nofun (by decide)
  | n + 10 => exact iff_of_true rfl (.inr (Nat.le_add_left 10 n))

end Sys2Proof

namespace Sys2Proof.Machine

/-- R75: a request that selects no operation is refused. -/
theorem issue_of_reservedOp {s : State} {a : HostAction}
    (reserved : decode s.params a = .rejected .reservedOp) : issue a s = .refused .reservedOp := by
  simp [issue, reserved]

/-- Settles O14: the decoder by its table, and the step as `issue` of the first entry of the agenda. -/
theorem reservedOpsRefused : Obligations.ReservedOpsRefused := by
  refine ⟨fun _ _ _ => decodeRequest_eq_reservedOp_iff, fun s op a rest noRestart valid first reserved => ?_⟩
  calc step s = issue (.request op a) (setAgenda rest (beginStep s)) :=
        step_of_agenda_cons noRestart first valid
    _ = .refused .reservedOp := issue_of_reservedOp (decodeRequest_eq_reservedOp_iff.2 reserved)

end Sys2Proof.Machine

namespace Sys2Proof

/-! ### Table words and frames written out -/

/-- R70: a table word that stands for the request of an operation is read as that operation. -/
theorem decodeTableWord_of_encode {n w : Nat} {i : Instr} {c : BitVec 4} (isOp : opCode i = some c)
    (presented : tableRequest w = encode Config.params i) : decodeTableWord n w = some i := by
  simp [decodeTableWord, presented, decode_encode_of_opCode Config.params isOp]

/-- R75: a table word with a reserved op code is read as no instruction. -/
theorem decodeTableWord_of_reserved {n w : Nat}
    (reserved : (BitVec.ofNat 4 w).toNat = 0 ∨ 10 ≤ (BitVec.ofNat 4 w).toNat) :
    decodeTableWord n w = none := by
  have rejected : decode Config.params (tableRequest w) = .rejected .reservedOp :=
    decodeRequest_eq_reservedOp_iff.2 reserved
  simp [decodeTableWord, rejected]

/-- Settles O15: the words 1 to 9 are the requests of the operations with operands of zeros. -/
theorem opCodeWordsDecode : Obligations.OpCodeWordsDecode :=
  ⟨decodeTableWord_of_encode rfl rfl, decodeTableWord_of_encode rfl rfl, decodeTableWord_of_encode rfl rfl,
    decodeTableWord_of_encode rfl rfl, decodeTableWord_of_encode rfl rfl, decodeTableWord_of_encode rfl rfl,
    decodeTableWord_of_encode rfl rfl, decodeTableWord_of_encode rfl rfl, decodeTableWord_of_encode rfl rfl,
    decodeTableWord_of_reserved (by decide), decodeTableWord_of_reserved (by decide)⟩

/-- R176: a frame that is what the encoder presents for an instruction is read as that instruction. -/
theorem decode_dispatchFrame_of_encode {p : Params} {i : Instr} {f : Bytes}
    (distinct : p.inboundDistinct = true) (wf : i.wf p = true) (presented : encode p i = .dispatchFrame f) :
    decode p (.dispatchFrame f) = .instr i :=
  presented ▸ decodeEncodeAgree p i distinct wf

/-- Settles O16: the first four frames are what the encoder presents for a report, so O13 reads them back; the
fifth is a built frame too, and its command byte is none of the four. -/
theorem reportFramesDecode : Obligations.ReportFramesDecode := by
  intro p start stop ready outputs inputs activated
  have distinct : p.inboundDistinct = true := by
    simp [Params.inboundDistinct, ready, outputs, inputs, activated]
  have built : ∀ command payload, buildFrame p 0x1C command payload =
      [0x02, 0x1C, command] ++ payload ++ [0x17] ++ [checksum ([0x02, 0x1C, command] ++ payload ++ [0x17])] :=
    fun _ _ => by rw [buildFrame, frameBody, start, stop]
  have avoids : ∀ command payload, command ≠ 0x17 → 0x17 ∉ payload →
      fieldsAvoidEnd p 0x1C command payload = true := fun _ _ hc hp => by
    rw [fieldsAvoidEnd, stop, decide_eq_true hc, decide_eq_true hp]
    rfl
  have unknown := decode_dispatchFrame_buildFrame (avoids 0x99 [] (by decide) (by decide))
  have ignored : classifyFrame p (buildFrame p 0x1C 0x99 []) = .rejected .ignoredCommand := by
    simp [classifyFrame, ready, outputs, inputs, activated]
  refine ⟨decode_dispatchFrame_of_encode distinct ?_ ?_, decode_dispatchFrame_of_encode distinct ?_ ?_,
    decode_dispatchFrame_of_encode distinct ?_ ?_, decode_dispatchFrame_of_encode distinct ?_ ?_, ?_⟩
  · exact avoids _ _ (by rw [ready]; decide) (by decide)
  · rw [encode, built, ready]; rfl
  · exact avoids _ _ (by rw [outputs]; decide) (by decide)
  · rw [encode, built, outputs]; rfl
  · exact avoids _ _ (by rw [inputs]; decide) (by decide)
  · rw [encode, built, inputs]; rfl
  · exact avoids _ _ (by rw [activated]; decide) (by decide)
  · rw [encode, built, activated]; rfl
  · rw [ignored, built] at unknown
    exact unknown

end Sys2Proof

namespace Sys2Proof.Machine

/-! ### A queued command and its frame -/

/-- R185, R186: an outbound instruction queues the command from which the frame of its row is built. -/
theorem exec_enqueues_rowFrame {s : State} {i : Instr} {f : Bytes}
    (outbound : (∃ m o d, i = .setOutput m o d) ∨ (∃ m, i = .requestOutputs m) ∨ ∃ m, i = .requestInputs m)
    (row : rowFrame s.params i = some f) :
    ∃ c, exec i s = .next (enqueue c s) ∧
      buildFrame s.params s.params.controllerId c.opcode c.payload = f := by
  obtain ⟨m, o, d, rfl⟩ | ⟨m, rfl⟩ | ⟨m, rfl⟩ := outbound
  · exact ⟨setOutputCommand s.params m o d, rfl, Option.some.inj row⟩
  · exact ⟨requestOutputsCommand s.params m, rfl, Option.some.inj row⟩
  · exact ⟨requestInputsCommand s.params m, rfl, Option.some.inj row⟩

/-- R183: a token for the host sends the command that waits. -/
theorem exec_dataReady_of_pending {s : State} {c : Command} (payload : Bytes) (waits : s.pending = some c) :
    exec (.dataReady s.params.hostPeerId payload) s =
      sendFrame s.params.controllerId c.opcode c.payload (drainSlot (emit .dataReady s)) := by
  simp [exec, execDataReady, handshake, waits]

/-- Settles O48: the command is queued, the token takes it out of the slot and sends it, and a write to a
working device with nothing buffered puts just its bytes on the line. -/
theorem queuedCommandGoesOutAsItsFrame : Obligations.QueuedCommandGoesOutAsItsFrame := by
  intro s i payload f outbound row unbounded running isOpen works empty
  obtain ⟨c, queued, rfl⟩ := exec_enqueues_rowFrame outbound row
  have fits : fitsTransport s.params (c.payload.length + 5) = true := by simp [fitsTransport, unbounded]
  have sent := (exec_dataReady_of_pending payload (s := enqueue c s) rfl).trans
    (sendFrame_eq_next.2 ⟨running, isOpen, fits, rfl⟩)
  have draw : (drainSlot (emit .dataReady (enqueue c s))).currentDraw.fail = false := works
  refine ⟨_, _, queued, sent, ?_, ?_, ?_⟩ <;> rw [writeOutcome_of_works draw]
  · simp [empty]
  · rfl
  · rfl

end Sys2Proof.Machine
end

section
/-! Proofs of the statements about the codec: the laws of the checksum, the shape of an encoded frame, DECODE
for each shape of a buffer and what follows from it, and repeated decoding of a stream fed in pieces. -/

namespace Sys2Proof

/-! ### The checksum as a sum of bytes -/

/-- R90: the wrapping sum of the bytes; the laws of sums in a commutative ring are the checksum's laws. -/
theorem checksum_eq_sum (bs : Bytes) : checksum bs = bs.sum := by
  induction bs with
  | nil => rfl
  | cons b bs ih =>
    rw [List.sum_cons, ← ih]
    simp [checksum, BitVec.ofNat_add]

theorem toNat_checksum (bs : Bytes) : (checksum bs).toNat = (bs.map BitVec.toNat).sum % 256 :=
  BitVec.toNat_ofNat _ _

theorem checksum_append (a b : Bytes) : checksum (a ++ b) = checksum a + checksum b := by
  simp only [checksum_eq_sum, List.sum_append]

/-- R90: how one byte in the middle of a sequence enters its checksum. -/
theorem checksum_append_cons (a c : Bytes) (b : Byte) :
    checksum (a ++ b :: c) = checksum a + checksum c + b := by
  simp only [checksum_eq_sum, List.sum_append, List.sum_cons]
  ring

/-- R91 (d): only the natural sum of two bytes enters the checksum. -/
theorem checksum_two_bytes {x y x' y' : Byte} (a b c : Bytes) (same : x.toNat + y.toNat = x'.toNat + y'.toNat) :
    checksum (a ++ x :: b ++ y :: c) = checksum (a ++ x' :: b ++ y' :: c) := by
  apply BitVec.eq_of_toNat_eq
  simp only [toNat_checksum, List.map_append, List.map_cons, List.sum_append, List.sum_cons]
  omega

/-- R91 (f): the sum of `n` bytes 0xFF. -/
theorem toNat_checksum_replicate (n : Nat) : (checksum (List.replicate n 0xFF)).toNat = 255 * n % 256 := by
  rw [toNat_checksum, List.map_replicate, List.sum_replicate, smul_eq_mul, Nat.mul_comm]
  rfl

/-- Settles O1: a sum of bytes is the left fold of their wrapping addition. -/
theorem checksumIsWrappingSum : Obligations.ChecksumIsWrappingSum := fun bs =>
  ⟨toNat_checksum bs, (checksum_eq_sum bs).trans List.sum_eq_foldl⟩

/-- Settles O2: each law from the one for sums of bytes or of naturals. -/
theorem checksumLaws : Obligations.ChecksumLaws := by
  refine ⟨fun bs => ?range, fun a b => ?concat, fun a b same => ?perm, fun a b c x y x' y' d hx hy => ?offset,
    fun bs => ?zero, fun n => ?ones, by decide⟩
  case range => exact Nat.le_of_lt_succ (checksum bs).isLt
  case concat => rw [checksum_append, BitVec.toNat_add]
  case perm => rw [checksum_eq_sum, checksum_eq_sum, same.sum_eq]
  case offset => exact ⟨checksum_two_bytes a b c (by omega), checksum_two_bytes a b c (by omega)⟩
  case zero => rw [checksum_append, show checksum [0x00] = 0 from rfl, add_zero]
  case ones =>
    have sum := toNat_checksum_replicate n
    exact ⟨sum, by omega⟩

/-! ### One inverted bit -/

/-- Inverting a bit that is clear adds its weight. -/
theorem xor_twoPow_of_clear {w k : Nat} {b : BitVec w} (clear : b.getLsbD k = false) :
    b ^^^ BitVec.twoPow w k = b + BitVec.twoPow w k := by
  have disjoint : b &&& BitVec.twoPow w k = 0#w := by simp [BitVec.and_twoPow, clear]
  rw [BitVec.add_eq_or_of_and_eq_zero _ _ disjoint]
  ext i hi
  by_cases at_k : i = k
  · subst at_k
    simp [← BitVec.getLsbD_eq_getElem, clear]
  · simp [at_k]

/-- R92: inverting bit `k` of a byte adds or takes away its weight. -/
theorem xor_twoPow {w k : Nat} (b : BitVec w) (hk : k < w) :
    b ^^^ BitVec.twoPow w k = b + BitVec.twoPow w k ∨ b ^^^ BitVec.twoPow w k = b - BitVec.twoPow w k := by
  cases bit : b.getLsbD k with
  | false => exact .inl (xor_twoPow_of_clear bit)
  | true =>
    have cleared : (b ^^^ BitVec.twoPow w k).getLsbD k = false := by simp [bit, hk]
    have back := xor_twoPow_of_clear cleared
    rw [BitVec.xor_assoc, BitVec.xor_self, BitVec.xor_zero] at back
    exact .inr (eq_sub_of_add_eq back.symm)

theorem xor_twoPow_ne {w k : Nat} (b : BitVec w) (hk : k < w) : b ^^^ BitVec.twoPow w k ≠ b := fun same => by
  have bit := congrArg (·.getLsbD k) same
  simp [hk] at bit

/-- Settles O3: the checksum moves as the byte does. -/
theorem singleBitChangesChecksum : Obligations.SingleBitChangesChecksum := by
  intro a c b k hk
  simp only [checksum_append_cons]
  refine ⟨?_, fun same => xor_twoPow_ne b hk (add_left_cancel same)⟩
  obtain added | taken := xor_twoPow b hk
  · exact .inl (by rw [added, ← add_assoc])
  · exact .inr (by rw [taken, add_sub_assoc])

/-- R92: the checksum of a sequence one of whose bytes has an inverted bit is another one. -/
theorem checksum_set_xor_ne {l : Bytes} {i k : Nat} {b : Byte} (byte : l[i]? = some b) (hk : k < 8) :
    checksum (l.set i (b ^^^ BitVec.twoPow 8 k)) ≠ checksum l := by
  obtain ⟨hi, rfl⟩ := List.getElem?_eq_some_iff.1 byte
  obtain ⟨front, back, split, -, changed⟩ := List.exists_of_set (a' := l[i] ^^^ BitVec.twoPow 8 k) hi
  have moved := (singleBitChangesChecksum front back l[i] k hk).2
  rwa [← changed, ← split] at moved

/-! ### The shape of an encoded frame -/

/-- R96: the three fields of a built frame can be read off it. -/
theorem buildFrame_injective {p : Params} {id id' command command' : Byte} {payload payload' : Bytes}
    (same : buildFrame p id' command' payload' = buildFrame p id command payload) :
    id' = id ∧ command' = command ∧ payload' = payload := by
  refine ⟨?_, ?_, ?_⟩
  · simpa using congrArg frameId same
  · simpa using congrArg frameCommand same
  · simpa using congrArg framePayload same

/-- A built frame without its last byte is its body. -/
theorem slice_buildFrame_body (p : Params) (id command : Byte) (payload : Bytes) :
    slice (buildFrame p id command payload) 0 (payload.length + 4) = frameBody p id command payload := by
  unfold slice buildFrame
  exact List.take_left' (Machine.length_frameBody ..)

/-- Settles O4: what ENCODE answers is the built frame, whose bytes stand written out in `buildFrame_eq`. -/
theorem encodedFrameShape : Obligations.EncodedFrameShape := by
  intro p id command payload f encoded
  obtain ⟨-, rfl⟩ := Machine.encodeFrame_eq_some.1 encoded
  rw [slice_buildFrame_body]
  refine ⟨Machine.length_buildFrame .., ?_, ?_, ?_, ?_, ?_, ?_, frameId_buildFrame .., frameCommand_buildFrame ..,
    framePayload_buildFrame .., fun id' command' payload' encoded' => ?injective⟩
  case injective => exact buildFrame_injective (Machine.encodeFrame_eq_some.1 encoded').2.symm
  all_goals simp [buildFrame_eq, slice]

/-! ### DECODE by the shape of a buffer -/

/-- R101: without a `START` everything is consumed. -/
theorem decodeBuffer_of_noStart {p : Params} {b : Bytes} (start : p.startMarker ∉ b) :
    decodeBuffer p b = { status := .noStart, frame := none, consumed := b.length } := by
  unfold decodeBuffer
  rw [leastIndex_eq_none.2 start]

/-- R101: a candidate is cut only when a byte follows the `END`, so the last byte is not looked at; until then
the noise before `START` is consumed. -/
theorem decodeBuffer_of_open {p : Params} {noise m : Bytes} (start : p.startMarker ∉ noise)
    (stop : p.endMarker ∉ m.dropLast) :
    decodeBuffer p (noise ++ p.startMarker :: m) =
      { status := .incomplete, frame := none, consumed := noise.length } := by
  rw [decodeBuffer_of_start p noise m start]
  cases found : leastIndex p.endMarker m with
  | none => rfl
  | some j =>
    obtain ⟨front, back, rfl, -, rfl⟩ := leastIndex_eq_some.1 found
    cases back with
    | nil => simp
    | cons ck rest => simp at stop

/-- R93, R101: a candidate with its checksum byte split off. -/
theorem decodeBuffer_of_checked {p : Params} {noise mid : Bytes} (ck : Byte) (rest : Bytes)
    (start : p.startMarker ∉ noise) (stop : p.endMarker ∉ mid) :
    decodeBuffer p (noise ++ p.startMarker :: (mid ++ p.endMarker :: ck :: rest)) =
      if checksum (p.startMarker :: (mid ++ [p.endMarker])) ≠ ck then
        { status := .checksumError, frame := none, consumed := noise.length + mid.length + 3 }
      else if mid.length + 3 < 5 then
        { status := .malformedShort, frame := none, consumed := noise.length + mid.length + 3 }
      else
        { status := .frameOk, frame := some (p.startMarker :: (mid ++ [p.endMarker, ck])),
          consumed := noise.length + mid.length + 3 } := by
  have cut := judgeCandidate_append (p.startMarker :: (mid ++ [p.endMarker])) ck (noise.length + mid.length + 3)
  rw [decodeBuffer_of_candidate ck rest start stop]
  simpa using cut

/-- Settles O5: the two incomplete shapes are one, with the bytes behind `START` less the last free of `END`. -/
theorem decodeOutcomeByShape : Obligations.DecodeOutcomeByShape := by
  intro p noise mid rest ck
  refine ⟨decodeBuffer_of_noStart, fun start stop => ⟨?_, ?_, decodeBuffer_of_checked ck rest start stop⟩⟩
  · exact decodeBuffer_of_open start (fun inside => stop (List.mem_of_mem_dropLast inside))
  · exact decodeBuffer_of_open start (by simpa using stop)

/-- R101: the three shapes of a buffer that DECODE tells apart. -/
inductive BufferShape (p : Params) : Bytes → Prop
  | noStart {b : Bytes} (start : p.startMarker ∉ b) : BufferShape p b
  | unfinished {noise m : Bytes} (start : p.startMarker ∉ noise) (stop : p.endMarker ∉ m.dropLast) :
      BufferShape p (noise ++ p.startMarker :: m)
  | candidate {noise mid : Bytes} (ck : Byte) (rest : Bytes) (start : p.startMarker ∉ noise)
      (stop : p.endMarker ∉ mid) :
      BufferShape p (noise ++ p.startMarker :: (mid ++ p.endMarker :: ck :: rest))

/-- R101: every buffer has one of the shapes. -/
theorem bufferShape (p : Params) (b : Bytes) : BufferShape p b := by
  cases first : leastIndex p.startMarker b with
  | none => exact .noStart (leastIndex_eq_none.1 first)
  | some n =>
    obtain ⟨noise, m, rfl, start, -⟩ := leastIndex_eq_some.1 first
    cases next : leastIndex p.endMarker m with
    | none =>
      exact .unfinished start (fun inside => leastIndex_eq_none.1 next (List.mem_of_mem_dropLast inside))
    | some j =>
      obtain ⟨mid, back, rfl, stop, -⟩ := leastIndex_eq_some.1 next
      cases back with
      | nil => exact .unfinished start (by simpa using stop)
      | cons ck rest => exact .candidate ck rest start stop

/-- R93: what a candidate is judged to be when its frame is returned. -/
theorem judgeCandidate_eq_frame {c f : Bytes} {ck : Byte} {n : Nat}
    (returned : (judgeCandidate (c ++ [ck]) n).frame = some f) :
    f = c ++ [ck] ∧ checksum c = ck ∧ 5 ≤ f.length := by
  rw [judgeCandidate_append] at returned
  split_ifs at returned with wrong short
  cases returned
  exact ⟨rfl, not_not.1 wrong, by simpa using short⟩

/-- R93: a candidate's outcome is neither of the two that cut none. -/
theorem judgeCandidate_status (cand : Bytes) (n : Nat) :
    (judgeCandidate cand n).status ≠ .noStart ∧ (judgeCandidate cand n).status ≠ .incomplete := by
  unfold judgeCandidate
  split_ifs <;> exact ⟨nofun, nofun⟩

/-- R104: a returned frame is a candidate that stands in the buffer and passed both tests. -/
theorem decodeBuffer_frame_cases {p : Params} {b f : Bytes} (returned : (decodeBuffer p b).frame = some f) :
    ∃ noise mid rest, b = noise ++ f ++ rest ∧ p.endMarker ∉ mid ∧ 2 ≤ mid.length ∧
      f = p.startMarker :: (mid ++ [p.endMarker, checksum (p.startMarker :: (mid ++ [p.endMarker]))]) := by
  cases bufferShape p b with
  | noStart start => simp [decodeBuffer_of_noStart start] at returned
  | unfinished start stop => simp [decodeBuffer_of_open start stop] at returned
  | @candidate noise mid ck rest start stop =>
    have split : p.startMarker :: (mid ++ [p.endMarker, ck]) =
        (p.startMarker :: (mid ++ [p.endMarker])) ++ [ck] := by simp
    rw [decodeBuffer_of_candidate ck rest start stop, split] at returned
    obtain ⟨rfl, rfl, long⟩ := judgeCandidate_eq_frame returned
    exact ⟨noise, mid, rest, by simp, stop, by simpa using long, by simp⟩

/-- R104: DECODE returns a frame exactly with `FRAME_OK`. -/
theorem decodeBuffer_frame_isSome_iff (p : Params) (b : Bytes) :
    (decodeBuffer p b).frame.isSome ↔ (decodeBuffer p b).status = .frameOk := by
  cases bufferShape p b with
  | noStart start => simp [decodeBuffer_of_noStart start]
  | unfinished start stop => simp [decodeBuffer_of_open start stop]
  | candidate ck rest start stop =>
    rw [decodeBuffer_of_candidate ck rest start stop]
    exact judgeCandidate_frame_isSome _ _

/-- R104, R110: nothing is consumed of an empty buffer and of one that waits with `START` in front. -/
theorem decodeBuffer_consumed_eq_zero_iff (p : Params) (b : Bytes) :
    (decodeBuffer p b).consumed = 0 ↔
      b = [] ∨ ((decodeBuffer p b).status = .incomplete ∧ b[0]? = some p.startMarker) := by
  cases bufferShape p b with
  | noStart start => simp [decodeBuffer_of_noStart start]
  | @unfinished noise m start stop =>
    rw [decodeBuffer_of_open start stop]
    cases noise with
    | nil => simp
    | cons x xs =>
      have ne : x ≠ p.startMarker := fun same => start (by simp [same])
      simp [ne]
  | candidate ck rest start stop =>
    simp [decodeBuffer_of_candidate ck rest start stop, judgeCandidate_status]

/-- R101: the outcome `NO_START` says that the buffer holds no `START`. -/
theorem startMarker_notMem_of_noStart {p : Params} {b : Bytes} (outcome : (decodeBuffer p b).status = .noStart) :
    p.startMarker ∉ b := by
  cases bufferShape p b with
  | noStart start => exact start
  | unfinished start stop => simp [decodeBuffer_of_open start stop] at outcome
  | candidate ck rest start stop =>
    simp [decodeBuffer_of_candidate ck rest start stop, judgeCandidate_status] at outcome

/-- R101: the outcome `INCOMPLETE` says that behind the noise stands an unfinished frame. -/
theorem unfinished_of_incomplete {p : Params} {b : Bytes} (waits : (decodeBuffer p b).status = .incomplete) :
    ∃ noise m, b = noise ++ p.startMarker :: m ∧ p.startMarker ∉ noise ∧ p.endMarker ∉ m.dropLast := by
  cases bufferShape p b with
  | noStart start => simp [decodeBuffer_of_noStart start] at waits
  | unfinished start stop => exact ⟨_, _, rfl, start, stop⟩
  | candidate ck rest start stop =>
    simp [decodeBuffer_of_candidate ck rest start stop, judgeCandidate_status] at waits

/-- R110: an outcome that cut a candidate consumed its markers and its checksum at least. -/
theorem three_le_consumed {p : Params} {b : Bytes} (starts : (decodeBuffer p b).status ≠ .noStart)
    (ends : (decodeBuffer p b).status ≠ .incomplete) : 3 ≤ (decodeBuffer p b).consumed := by
  cases bufferShape p b with
  | noStart start => simp [decodeBuffer_of_noStart start] at starts
  | unfinished start stop => simp [decodeBuffer_of_open start stop] at ends
  | candidate ck rest start stop => simp [decodeBuffer_of_candidate ck rest start stop]

/-- R104: the bytes strictly inside a candidate are those before its `END`. -/
theorem getElem?_candidate_ne_end {p : Params} {mid : Bytes} {ck : Byte} {i : Nat} (stop : p.endMarker ∉ mid)
    (first : 1 ≤ i) (last : i ≤ mid.length) :
    (p.startMarker :: (mid ++ [p.endMarker, ck]))[i]? ≠ some p.endMarker := by
  obtain ⟨j, rfl⟩ := Nat.exists_eq_add_of_le' first
  rw [List.getElem?_cons_succ, List.getElem?_append_left last]
  exact fun found => stop (List.mem_of_getElem? found)

/-- Settles O6: the bounds by the shape of the buffer, the returned frame by `decodeBuffer_frame_cases`. -/
theorem decodeBounds : Obligations.DecodeBounds := by
  intro p b
  refine ⟨decodeBuffer_consumed_le p b, fun outcome => ?all, fun waits => ?fewer,
    decodeBuffer_consumed_eq_zero_iff p b, decodeBuffer_frame_isSome_iff p b, fun f returned => ?frame⟩
  case all => rw [decodeBuffer_of_noStart (startMarker_notMem_of_noStart outcome)]
  case fewer =>
    obtain ⟨noise, m, rfl, start, stop⟩ := unfinished_of_incomplete waits
    simp [decodeBuffer_of_open start stop]
  case frame =>
    obtain ⟨-, mid, -, -, stop, long, rfl⟩ := decodeBuffer_frame_cases returned
    refine ⟨by simpa using long, rfl, by simp, by simp [slice, List.take_append, List.take_of_length_le],
      fun i first last => ?_⟩
    exact getElem?_candidate_ne_end stop first (by simpa using last)

/-- Settles O7: the round trip of a built frame, without and with bytes around it. -/
theorem roundTripThroughNoise : Obligations.RoundTripThroughNoise := by
  intro p id command payload f noise rest hid hcommand hpayload start encoded
  obtain ⟨-, rfl⟩ := Machine.encodeFrame_eq_some.1 encoded
  have avoids : fieldsAvoidEnd p id command payload = true :=
    fieldsAvoidEnd_iff.2 (by simp [hid.symm, hcommand.symm, hpayload])
  have alone := decodeBuffer_buildFrame (noise := []) [] List.not_mem_nil avoids
  exact ⟨by simpa using alone, decodeBuffer_buildFrame rest start avoids, by simp⟩

/-! ### A field equal to `END` -/

/-- R7: the least index of a byte from its positions. -/
theorem leastIndex_of_getElem? {b : Byte} {l : Bytes} {n : Nat} (here : l[n]? = some b)
    (first : ∀ i < n, l[i]? ≠ some b) : leastIndex b l = some n := by
  obtain ⟨inside, rfl⟩ := List.getElem?_eq_some_iff.1 here
  refine leastIndex_eq_some.2 ⟨l.take n, l.drop (n + 1), ?_, fun occurs => ?_, ?_⟩
  · rw [List.getElem_cons_drop, List.take_append_drop]
  · obtain ⟨i, hi, same⟩ := List.mem_take_iff_getElem.1 occurs
    exact first i (by omega) (List.getElem?_eq_some_iff.2 ⟨by omega, same⟩)
  · exact List.length_take_of_le inside.le

/-- R107: a built frame cut at the first `END` behind `START`, when a field byte holds one. -/
theorem buildFrame_cut_at_first_end {p : Params} {id command : Byte} {payload : Bytes} {q : Nat} (behind : 1 ≤ q)
    (field : q ≤ payload.length + 2) (here : (buildFrame p id command payload)[q]? = some p.endMarker)
    (first : ∀ i, 1 ≤ i → i < q → (buildFrame p id command payload)[i]? ≠ some p.endMarker) :
    ∃ mid ck rest, buildFrame p id command payload = p.startMarker :: (mid ++ p.endMarker :: ck :: rest) ∧
      p.endMarker ∉ mid ∧ q = mid.length + 1 := by
  obtain ⟨j, rfl⟩ := Nat.exists_eq_add_of_le' behind
  have total := Machine.length_buildFrame p id command payload
  rw [buildFrame_eq] at here first total ⊢
  have least := leastIndex_of_getElem? (List.getElem?_cons_succ.symm.trans here)
    fun i hi found => first (i + 1) (by omega) (by omega) found
  obtain ⟨mid, back, split, stop, rfl⟩ := leastIndex_eq_some.1 least
  rw [split] at total ⊢
  match back with
  | [] => simp at total; omega
  | ck :: rest => exact ⟨mid, ck, rest, rfl, stop, rfl⟩

/-- Settles O8: the buffer is cut at the first `END`, and the candidate judged. -/
theorem endInFieldCutsFrame : Obligations.EndInFieldCutsFrame := by
  intro p id command payload q behind field here first
  obtain ⟨mid, ck, rest, split, stop, rfl⟩ := buildFrame_cut_at_first_end behind field here first
  have decoded := decodeBuffer_of_checked (noise := []) ck rest List.not_mem_nil stop
  have cut := decodeBuffer_of_candidate (noise := []) ck rest List.not_mem_nil stop
  have body : slice (p.startMarker :: (mid ++ p.endMarker :: ck :: rest)) 0 (mid.length + 1 + 1) =
      p.startMarker :: (mid ++ [p.endMarker]) := by simp [slice, List.take_append]
  have candidate : slice (p.startMarker :: (mid ++ p.endMarker :: ck :: rest)) 0 (mid.length + 1 + 2) =
      p.startMarker :: (mid ++ [p.endMarker, ck]) := by simp [slice, List.take_append]
  have last : (p.startMarker :: (mid ++ p.endMarker :: ck :: rest))[mid.length + 1 + 1]? = some ck := by simp
  rw [List.nil_append] at decoded cut
  rw [split, body, candidate, last]
  refine ⟨?_, fun wrong => ?_, fun right => ⟨fun short => ?_, fun long => ?_⟩⟩
  · rw [cut, judgeCandidate_consumed, List.length_nil, Nat.zero_add]
  · rw [decoded, if_pos (fun same => wrong (congrArg some same))]
  · rw [decoded, if_neg (not_not.2 (Option.some.inj right)), if_pos short]
  · rw [decoded, if_neg (not_not.2 (Option.some.inj right)), if_neg (Nat.not_lt.2 long)]

/-! ### A frame with one inverted bit -/

/-- R93: a candidate whose checksum byte is not the sum before it is reported as such, whatever its length. -/
theorem decodeBuffer_of_wrong_checksum {p : Params} {mid : Bytes} {ck : Byte} (stop : p.endMarker ∉ mid)
    (wrong : checksum (p.startMarker :: (mid ++ [p.endMarker])) ≠ ck) :
    (decodeBuffer p (p.startMarker :: (mid ++ [p.endMarker, ck]))).status = .checksumError := by
  have decoded := decodeBuffer_of_checked (noise := []) ck [] List.not_mem_nil stop
  rw [if_pos wrong, List.nil_append] at decoded
  rw [decoded]

/-- R108: a frame is not returned from another buffer of its length. -/
theorem decodeBuffer_frame_ne {p : Params} {f g : Bytes} (other : g ≠ f) (length : g.length = f.length) :
    (decodeBuffer p g).frame ≠ some f := fun returned => by
  obtain ⟨noise, -, rest, split, -⟩ := decodeBuffer_frame_cases returned
  have inside : f <:+: g := ⟨noise, rest, split.symm⟩
  exact other (inside.eq_of_length length.symm).symm

/-- R108 (c): a frame one of whose field bytes has an inverted bit, and is not `END` with it. -/
theorem decodeBuffer_of_field_hit {p : Params} {fields : Bytes} {j k : Nat} {b : Byte}
    (stop : p.endMarker ∉ fields) (byte : fields[j]? = some b) (hk : k < 8)
    (avoids : b ^^^ BitVec.twoPow 8 k ≠ p.endMarker) :
    (decodeBuffer p (p.startMarker :: (fields.set j (b ^^^ BitVec.twoPow 8 k) ++
      [p.endMarker, checksum (p.startMarker :: (fields ++ [p.endMarker]))]))).status = .checksumError := by
  have inside : j < fields.length := (List.getElem?_eq_some_iff.1 byte).1
  refine decodeBuffer_of_wrong_checksum (fun occurs => ?_) ?_
  · obtain old | new := List.mem_or_eq_of_mem_set occurs
    · exact stop old
    · exact avoids new.symm
  · have byte' : (p.startMarker :: (fields ++ [p.endMarker]))[j + 1]? = some b := by
      rw [List.getElem?_cons_succ, List.getElem?_append_left inside, byte]
    have moved := checksum_set_xor_ne byte' hk
    rwa [List.set_cons_succ, List.set_append_left _ _ inside] at moved

/-- R108: a built frame as the bytes between its markers, with what the cases below need of them. -/
theorem buildFrame_eq_fields {p : Params} {id command : Byte} {payload : Bytes} (hid : id ≠ p.endMarker)
    (hcommand : command ≠ p.endMarker) (hpayload : p.endMarker ∉ payload) :
    ∃ fields, p.endMarker ∉ fields ∧ fields.length = payload.length + 2 ∧
      buildFrame p id command payload =
        p.startMarker :: (fields ++ [p.endMarker, checksum (p.startMarker :: (fields ++ [p.endMarker]))]) :=
  ⟨id :: command :: payload, by simp [hid.symm, hcommand.symm, hpayload], rfl, buildFrame_eq ..⟩

/-- Settles O9: where the bit stands says which of the two searches or the test of DECODE it upsets. -/
theorem oneBitFlipNeverPasses : Obligations.OneBitFlipNeverPasses := by
  intro p id command payload f g i k b hid hcommand hpayload built byte hk flipped
  obtain ⟨fields, stop, length, shape⟩ := buildFrame_eq_fields hid hcommand hpayload
  have flip : b ^^^ BitVec.twoPow 8 k ≠ b := xor_twoPow_ne b hk
  rw [shape] at built
  subst built flipped
  refine ⟨decodeBuffer_frame_ne (fun same => ?whole) List.length_set, ?start, ?stop, ?field, ?checksum⟩
  case whole =>
    have changed := List.getElem?_set_self (a := b ^^^ BitVec.twoPow 8 k) (List.getElem?_eq_some_iff.1 byte).1
    rw [same, byte] at changed
    exact flip (Option.some.inj changed).symm
  case start =>
    rintro rfl later
    obtain rfl : p.startMarker = b := Option.some.inj byte
    rw [List.set_cons_zero, decodeBuffer_of_noStart]
    exact fun occurs => (List.mem_cons.1 occurs).elim flip.symm later
  case stop =>
    intro atEnd
    obtain rfl : i = fields.length + 1 := by omega
    obtain rfl : p.endMarker = b := by simpa using byte
    have waits := decodeBuffer_of_open (p := p) (noise := [])
      (m := fields ++ [p.endMarker ^^^ BitVec.twoPow 8 k, checksum (p.startMarker :: (fields ++ [p.endMarker]))])
      List.not_mem_nil (by simp [stop, flip.symm])
    rw [List.nil_append] at waits
    simp [waits]
  case field =>
    intro first last avoids
    obtain ⟨j, rfl⟩ := Nat.exists_eq_add_of_le' first
    have inside : j < fields.length := by omega
    rw [List.getElem?_cons_succ, List.getElem?_append_left inside] at byte
    rw [List.set_cons_succ, List.set_append_left _ _ inside]
    exact decodeBuffer_of_field_hit stop byte hk avoids
  case checksum =>
    intro atLast
    obtain rfl : i = fields.length + 2 := by omega
    obtain rfl : checksum (p.startMarker :: (fields ++ [p.endMarker])) = b := by simpa using byte
    simpa using decodeBuffer_of_wrong_checksum stop flip.symm

/-! ### Noise before a buffer -/

/-- R109: noise without `START` is consumed, and changes nothing else. -/
theorem decodeBuffer_noise_append {p : Params} {noise : Bytes} (b : Bytes) (start : p.startMarker ∉ noise) :
    decodeBuffer p (noise ++ b) =
      { decodeBuffer p b with consumed := noise.length + (decodeBuffer p b).consumed } := by
  cases bufferShape p b with
  | noStart start' =>
    rw [decodeBuffer_of_noStart start', decodeBuffer_of_noStart (by simp [start, start'])]
    simp
  | unfinished start' stop =>
    rw [← List.append_assoc, decodeBuffer_of_open start' stop, decodeBuffer_of_open (by simp [start, start']) stop]
    simp
  | candidate ck rest start' stop =>
    rw [← List.append_assoc, decodeBuffer_of_checked ck rest start' stop,
      decodeBuffer_of_checked ck rest (by simp [start, start']) stop]
    split_ifs <;> simp [Nat.add_assoc]

/-- Settles O10: the law, and as the noise that breaks it a `START` before nothing, which DECODE waits behind. -/
theorem boundaryDiscard : Obligations.BoundaryDiscard := by
  refine ⟨fun p noise b start => ?_, Config.params, [Config.params.startMarker], [],
    List.mem_singleton_self _, ?_⟩
  · rw [decodeBuffer_noise_append b start]
    exact ⟨rfl, rfl, rfl⟩
  · have waits := decodeBuffer_of_open (p := Config.params) (noise := []) (m := []) List.not_mem_nil List.not_mem_nil
    have nothing := decodeBuffer_of_noStart (p := Config.params) (b := []) List.not_mem_nil
    rw [List.append_nil, nothing]
    rw [List.nil_append] at waits
    simp [waits]

end Sys2Proof

namespace Sys2Proof.Machine

/-! ### Repeated decoding -/

theorem dropConsumed_of_noStart {p : Params} {b : Bytes} (start : p.startMarker ∉ b) : dropConsumed p b = [] := by
  rw [dropConsumed, decodeBuffer_of_noStart start, List.drop_length]

theorem dropConsumed_of_open {p : Params} {noise m : Bytes} (start : p.startMarker ∉ noise)
    (stop : p.endMarker ∉ m.dropLast) :
    dropConsumed p (noise ++ p.startMarker :: m) = p.startMarker :: m := by
  rw [dropConsumed, decodeBuffer_of_open start stop, List.drop_left]

theorem dropConsumed_of_candidate {p : Params} {noise mid : Bytes} (ck : Byte) (rest : Bytes)
    (start : p.startMarker ∉ noise) (stop : p.endMarker ∉ mid) :
    dropConsumed p (noise ++ p.startMarker :: (mid ++ p.endMarker :: ck :: rest)) = rest := by
  have split : noise ++ p.startMarker :: (mid ++ p.endMarker :: ck :: rest) =
      (noise ++ p.startMarker :: (mid ++ [p.endMarker, ck])) ++ rest := by simp
  rw [dropConsumed, decodeBuffer_of_candidate ck rest start stop, judgeCandidate_consumed, split]
  exact List.drop_left' (by simp; omega)

theorem dropConsumed_noise_append {p : Params} {noise : Bytes} (b : Bytes) (start : p.startMarker ∉ noise) :
    dropConsumed p (noise ++ b) = dropConsumed p b := by
  rw [dropConsumed, decodeBuffer_noise_append b start, List.drop_append, dropConsumed]
  simp

/-- R110: a DECODE that consumes something shortens the buffer. -/
theorem consumed_zero_or_dropConsumed_shorter (p : Params) (b : Bytes) :
    (decodeBuffer p b).consumed = 0 ∨ (dropConsumed p b).length < b.length := by
  have bound := decodeBuffer_consumed_le p b
  rw [dropConsumed, List.length_drop]
  omega

/-- R110: the loop ends, by the length of the buffer. -/
theorem exists_iterate_dropConsumed (p : Params) (b : Bytes) :
    ∃ n, (decodeBuffer p ((dropConsumed p)^[n] b)).consumed = 0 := by
  obtain stays | shorter := consumed_zero_or_dropConsumed_shorter p b
  · exact ⟨0, stays⟩
  · obtain ⟨n, ends⟩ := exists_iterate_dropConsumed p (dropConsumed p b)
    exact ⟨n + 1, ends⟩
termination_by b.length

/-- Settles O11: what is left of a buffer without a candidate is nothing, or an unfinished frame. -/
theorem repeatedDecodeEnds : Obligations.RepeatedDecodeEnds := by
  intro p b
  refine ⟨fun outcome => ?_, fun waits => ?_, three_le_consumed, exists_iterate_dropConsumed p b⟩
  · rw [dropConsumed_of_noStart (startMarker_notMem_of_noStart outcome)]
    exact ⟨rfl, decodeBuffer_of_noStart List.not_mem_nil⟩
  · obtain ⟨noise, m, rfl, start, stop⟩ := unfinished_of_incomplete waits
    rw [dropConsumed_of_open start stop]
    exact ⟨rfl, decodeBuffer_of_open (noise := []) List.not_mem_nil stop⟩

/-! ### A stream fed in pieces -/

/-- R112: a run with candidates reported before it. -/
def reportFirst (cs : List Candidate) (run : List Candidate × Bytes) : List Candidate × Bytes :=
  (cs ++ run.1, run.2)

theorem reportFirst_nil (run : List Candidate × Bytes) : reportFirst [] run = run := rfl

theorem reportFirst_append (cs ds : List Candidate) (run : List Candidate × Bytes) :
    reportFirst (cs ++ ds) run = reportFirst cs (reportFirst ds run) := by
  simp [reportFirst]

theorem decodeTimes_succ (p : Params) (n : Nat) (b : Bytes) :
    decodeTimes p (n + 1) b =
      reportFirst (candidateOf (decodeBuffer p b)) (decodeTimes p n (dropConsumed p b)) := rfl

theorem runPieces_cons (p : Params) (piece : Bytes) (n : Nat) (rest : List (Bytes × Nat)) (b : Bytes) :
    runPieces p ((piece, n) :: rest) b =
      reportFirst (decodeTimes p n (b ++ piece)).1 (runPieces p rest (decodeTimes p n (b ++ piece)).2) := rfl

/-- R104, R112: a DECODE that consumes nothing reports no candidate. -/
theorem candidateOf_eq_nil {p : Params} {b : Bytes} (stays : (decodeBuffer p b).consumed = 0) :
    candidateOf (decodeBuffer p b) = [] := by
  cases bufferShape p b with
  | noStart start => rw [decodeBuffer_of_noStart start]; rfl
  | unfinished start stop => rw [decodeBuffer_of_open start stop]; rfl
  | candidate ck rest start stop => simp [decodeBuffer_of_candidate ck rest start stop] at stays

/-- R110: where a DECODE consumes nothing, any number of them changes nothing. -/
theorem decodeTimes_of_consumed_zero {p : Params} {b : Bytes} (stays : (decodeBuffer p b).consumed = 0) (n : Nat) :
    decodeTimes p n b = ([], b) := by
  induction n with
  | zero => rfl
  | succ n ih =>
    have same : dropConsumed p b = b := by rw [dropConsumed, stays, List.drop_zero]
    rw [decodeTimes_succ, candidateOf_eq_nil stays, same, ih, reportFirst_nil]

/-- R110: a DECODE beyond the length of the buffer changes nothing. -/
theorem decodeTimes_succ_of_le {p : Params} {n : Nat} {b : Bytes} (enough : b.length ≤ n) :
    decodeTimes p (n + 1) b = decodeTimes p n b := by
  obtain stays | shorter := consumed_zero_or_dropConsumed_shorter p b
  · rw [decodeTimes_of_consumed_zero stays, decodeTimes_of_consumed_zero stays]
  · cases n with
    | zero => omega
    | succ n =>
      have enough' : (dropConsumed p b).length ≤ n := by omega
      rw [decodeTimes_succ, decodeTimes_succ_of_le enough', decodeTimes_succ]

/-- R110: as many DECODEs as the buffer has bytes are a run to the end. -/
theorem decodeTimes_eq_decodeAll {p : Params} {n : Nat} {b : Bytes} (enough : b.length ≤ n) :
    decodeTimes p n b = decodeAll p b := by
  induction n, enough using Nat.le_induction with
  | base => exact (decodeTimes_succ_of_le le_rfl).symm
  | succ n enough ih => rw [decodeTimes_succ_of_le enough, ih]

/-- R112: a run to the end is one DECODE and the run to the end of what it leaves. -/
theorem decodeAll_eq (p : Params) (b : Bytes) :
    decodeAll p b = reportFirst (candidateOf (decodeBuffer p b)) (decodeAll p (dropConsumed p b)) := by
  have noLonger : (dropConsumed p b).length ≤ b.length := by
    rw [dropConsumed, List.length_drop]
    exact Nat.sub_le ..
  rw [decodeAll, decodeTimes_succ, decodeTimes_eq_decodeAll noLonger]

/-- R109, R112: noise without `START` adds nothing to a run to the end. -/
theorem decodeAll_noise_append {p : Params} {noise : Bytes} (b : Bytes) (start : p.startMarker ∉ noise) :
    decodeAll p (noise ++ b) = decodeAll p b := by
  rw [decodeAll_eq p (noise ++ b), dropConsumed_noise_append b start, decodeBuffer_noise_append b start]
  exact (decodeAll_eq p b).symm

/-- R112: a DECODE run before the rest of the stream has come reports nothing that the whole stream does not. -/
theorem decodeAll_append (p : Params) (b later : Bytes) :
    decodeAll p (b ++ later) =
      reportFirst (candidateOf (decodeBuffer p b)) (decodeAll p (dropConsumed p b ++ later)) := by
  cases bufferShape p b with
  | noStart start =>
    rw [dropConsumed_of_noStart start, decodeBuffer_of_noStart start, decodeAll_noise_append later start]
    rfl
  | unfinished start stop =>
    rw [dropConsumed_of_open start stop, decodeBuffer_of_open start stop, List.append_assoc,
      decodeAll_noise_append _ start]
    rfl
  | @candidate noise mid ck rest start stop =>
    have longer : noise ++ p.startMarker :: (mid ++ p.endMarker :: ck :: rest) ++ later =
      noise ++ p.startMarker :: (mid ++ p.endMarker :: ck :: (rest ++ later)) := by simp
    rw [longer, decodeAll_eq, dropConsumed_of_candidate ck _ start stop, dropConsumed_of_candidate ck _ start stop,
      decodeBuffer_of_candidate ck _ start stop, decodeBuffer_of_candidate ck _ start stop]

/-- R112: the same for any number of DECODEs. -/
theorem decodeAll_append_decodeTimes (p : Params) (n : Nat) (b later : Bytes) :
    decodeAll p (b ++ later) =
      reportFirst (decodeTimes p n b).1 (decodeAll p ((decodeTimes p n b).2 ++ later)) := by
  induction n generalizing b with
  | zero => rfl
  | succ n ih =>
    rw [decodeAll_append, ih (dropConsumed p b), ← reportFirst_append]
    rfl

/-- R112: a run over pieces behind a buffer is the run to the end of the whole stream. -/
theorem runPieces_eq_decodeAll (p : Params) (pieces : List (Bytes × Nat)) (b : Bytes) :
    runPieces p pieces b = decodeAll p (b ++ (pieces.map Prod.fst).flatten) := by
  induction pieces generalizing b with
  | nil => rw [List.map_nil, List.flatten_nil, List.append_nil]; rfl
  | cons head rest ih =>
    obtain ⟨piece, n⟩ := head
    rw [runPieces_cons, ih, List.map_cons, List.flatten_cons, ← List.append_assoc,
      decodeAll_append_decodeTimes p n (b ++ piece)]

/-- Settles O12: a run over pieces that begins with an empty buffer. -/
theorem chunkingIndependence : Obligations.ChunkingIndependence := fun p pieces =>
  runPieces_eq_decodeAll p pieces []

/-! ### The codec's operations -/

/-- R95: ENCODE answers the built frame when it fits. -/
theorem execEncode_of_fits {id command : Byte} {payload : Bytes} {s : State}
    (fits : fitsTransport s.params (payload.length + 5) = true) :
    execEncode id command payload s = .next (respond (.bytes (buildFrame s.params id command payload)) s) := by
  rw [execEncode, encodeFrame_eq_some.2 ⟨fits, rfl⟩]

/-- R95: ENCODE is refused when the frame does not fit. -/
theorem execEncode_of_not_fits {id command : Byte} {payload : Bytes} {s : State}
    (long : fitsTransport s.params (payload.length + 5) = false) :
    execEncode id command payload s = .refused .frameTooLong := by
  have refused : encodeFrame s.params id command payload = none := by
    rw [encodeFrame, length_frameBody, if_neg (by simp [long])]
  rw [execEncode, refused]

/-- Settles O23: ENCODE by whether the frame fits. -/
theorem encodeAnswersFrame : Obligations.EncodeAnswersFrame := by
  refine fun s id command payload => ⟨fun fits => ?_, fun limit bounded long => ?_⟩
  · exact ⟨_, frameBody s.params id command payload, rfl,
      execEncode_of_fits ((fitsTransport_iff _ _).2 fits), rfl⟩
  · exact execEncode_of_not_fits (by simpa [fitsTransport, bounded] using long)

/-- Settles O24: nothing of the state but the parameters is looked at. -/
theorem decodeAnswersResult : Obligations.DecodeAnswersResult := fun _ _ => rfl

end Sys2Proof.Machine
end

section
/-! Proofs of the statements about the transport: the line agent, and OPEN, CLOSE, READ_AVAILABLE, WRITE_FRAME
and FLUSH by their preconditions and their draws. -/

namespace Sys2Proof.Machine

/-! ### The line agent -/

/-- R136: with no byte left on the line the agent does nothing. -/
theorem lineAgentStep_of_nil {s : State} (silent : s.lineIn = []) : lineAgentStep s = s := by
  simp [lineAgentStep, silent]

/-- R136: ARRIVE on an open link, DROP on a closed one. -/
theorem lineAgentStep_of_cons {s : State} {a : Arrival} {rest : List Arrival} (first : s.lineIn = a :: rest) :
    lineAgentStep s =
      { s with lineIn := rest, rxfifo := if s.linkOpen then s.rxfifo ++ [a.byte] else s.rxfifo } := by
  simp [lineAgentStep, first]

/-- R28: while the first byte of the line is not there, nothing is delivered. -/
theorem deliver_of_due_nil {s : State} (noneDue : s.due = []) : deliver s = s := by
  have kept : s.lineIn.dropWhile (s.there s.now) = s.lineIn := by
    have split := List.takeWhile_append_dropWhile (p := s.there s.now) (l := s.lineIn)
    rwa [show s.lineIn.takeWhile (s.there s.now) = [] from noneDue, List.nil_append] at split
  simp [deliver, noneDue, kept]

/-- R136: the agent's step takes a byte that is there off the bytes still due. -/
theorem due_eq_cons {s : State} {a : Arrival} {rest : List Arrival} (first : s.lineIn = a :: rest)
    (here : s.there s.now a = true) : s.due = a :: (lineAgentStep s).due := by
  rw [lineAgentStep_of_cons first, State.due, first, List.takeWhile_cons_of_pos here]
  rfl

/-- R136: a delivery may begin with one step of the agent for a byte that is there. -/
theorem deliver_lineAgentStep {s : State} {a : Arrival} {rest : List Arrival} (first : s.lineIn = a :: rest)
    (here : s.there s.now a = true) : deliver (lineAgentStep s) = deliver s := by
  have due := due_eq_cons first here
  have left : s.lineIn.dropWhile (s.there s.now) = rest.dropWhile (s.there s.now) := by
    rw [first, List.dropWhile_cons_of_pos here]
  unfold deliver
  rw [due, left, lineAgentStep_of_cons first]
  cases o : s.linkOpen
  · rfl
  · rw [List.map_cons, List.append_cons _ _ (List.map _ _)]
    rfl

/-- R136: a delivery is one step of the agent for each byte that is due. -/
theorem deliver_eq_iterate (s : State) : deliver s = lineAgentStep^[s.due.length] s := by
  induction h : s.due generalizing s with
  | nil => exact deliver_of_due_nil h
  | cons b later ih =>
    cases first : s.lineIn with
    | nil => simp [State.due, first] at h
    | cons a rest =>
      have here : s.there s.now a = true := by
        by_contra absent
        simp [State.due, first, absent] at h
      rw [due_eq_cons first here, List.cons.injEq] at h
      calc deliver s = deliver (lineAgentStep s) := (deliver_lineAgentStep first here).symm
        _ = lineAgentStep^[later.length] (lineAgentStep s) := ih (lineAgentStep s) h.2
        _ = lineAgentStep^[(b :: later).length] s := rfl

/-- Settles O19: the agent's step by the shape of the line, and a delivery as its iteration. -/
theorem lineAgentDelivers : Obligations.LineAgentDelivers := by
  refine ⟨fun s a rest first => ⟨fun o => ?_, fun o => ?_⟩, fun s => lineAgentStep_of_nil, deliver_eq_iterate⟩
  · rw [lineAgentStep_of_cons first, o, if_pos rfl]
  · rw [lineAgentStep_of_cons first, o]
    rfl

/-! ### The meanings by precondition and draw -/

/-- R120: OPEN is refused in a halted block. -/
theorem execOpen_of_halted {s : State} (a : Address) (b : Nat) (halted : s.rxState = .halted) :
    execOpen a b s = .refused .halted := by
  simp [execOpen, halted]

/-- R120: OPEN is refused on an open link. -/
theorem execOpen_of_open {s : State} (a : Address) (b : Nat) (run : s.rxState ≠ .halted)
    (o : s.linkOpen = true) : execOpen a b s = .refused .linkAlreadyOpen := by
  simp [execOpen, run, o]

/-- R122: OPEN when the device can be opened. -/
theorem execOpen_of_works {s : State} (a : Address) (b : Nat) (run : s.rxState ≠ .halted)
    (o : s.linkOpen = false) (d : s.currentDraw.fail = false) :
    execOpen a b s = .next (respond .ok (acquireLink a b s.popDraw)) := by
  simp [execOpen, run, o, d]

/-- R210: OPEN when the device cannot be opened. -/
theorem execOpen_of_fails {s : State} (a : Address) (b : Nat) (run : s.rxState ≠ .halted)
    (o : s.linkOpen = false) (d : s.currentDraw.fail = true) :
    execOpen a b s = .next (respond (.linkUnavailable a) (fatalEntry .linkUnavailable s.popDraw)) := by
  simp [execOpen, run, o, d]

/-- R124: READ_AVAILABLE when the read does not fail. -/
theorem execReadAvailable_of_works {s : State} (n : Nat) (run : s.rxState ≠ .halted) (o : s.linkOpen = true)
    (d : s.currentDraw.fail = false) :
    execReadAvailable n s = .next (respond (.bytes (readChunk n s.popDraw)) (readDone n s.popDraw)) := by
  simp [execReadAvailable, run, o, d]

/-- R126: READ_AVAILABLE when the read fails. -/
theorem execReadAvailable_of_fails {s : State} (n : Nat) (run : s.rxState ≠ .halted) (o : s.linkOpen = true)
    (d : s.currentDraw.fail = true) :
    execReadAvailable n s = .next (respond .transportReadError (fatalEntry .transportReadError s.popDraw)) := by
  simp [execReadAvailable, run, o, d]

/-- R120, R153: RX_STEP is refused in a halted block. -/
theorem execRxStep_of_halted {s : State} (n : Nat) (halted : s.rxState = .halted) :
    execRxStep n s = .refused .halted := by
  simp [execRxStep, halted]

/-- R153: RX_STEP without a shutdown has the precondition of its read. -/
theorem execRxStep_of_closed {s : State} (n : Nat) (run : s.rxState ≠ .halted) (o : s.linkOpen = false)
    (running : s.shutdown = false) : execRxStep n s = .refused .linkNotOpen := by
  simp [execRxStep, run, running, whenOpen_of_closed _ run o]

/-- R126, R214: RX_STEP when its read fails. -/
theorem execRxStep_of_read_fails {s : State} (n : Nat) (run : s.rxState ≠ .halted) (o : s.linkOpen = true)
    (running : s.shutdown = false) (d : s.currentDraw.fail = true) :
    execRxStep n s = .next (respond .transportReadError (fatalEntry .transportReadError s.popDraw)) := by
  simp [execRxStep, run, running, o, d]

/-- R127: WRITE_FRAME and SEND refuse more bytes than the transport takes. -/
theorem transmit_of_not_fits {s : State} {b : Bytes} (run : s.rxState ≠ .halted) (o : s.linkOpen = true)
    (long : fitsTransport s.params b.length = false) : transmit b s = .refused .frameTooLong := by
  simp [transmit, run, o, long]

/-- R130: FLUSH when the device works, or has nothing to do. -/
theorem execFlush_of_works {s : State} (run : s.rxState ≠ .halted) (o : s.linkOpen = true)
    (works : s.currentDraw.fail = false ∨ s.txfifo = []) :
    execFlush s = .next (respond .ok (lineFlush s.popDraw)) := by
  obtain d | empty := works
  · simp [execFlush, run, o, d]
  · simp [execFlush, run, o, empty]

/-- R130: FLUSH when the device fails with bytes buffered. -/
theorem execFlush_of_fails {s : State} (run : s.rxState ≠ .halted) (o : s.linkOpen = true)
    (d : s.currentDraw.fail = true) (buffered : s.txfifo ≠ []) :
    execFlush s = .next (writeFailure s.txfifo s.currentDraw.wireCount s.popDraw) := by
  simp [execFlush, run, o, d, buffered]

/-- R226: the fatal entry of an operation that has drawn, in full. -/
theorem respond_fatalEntry_popDraw (r : Result) (c : FatalCause) (s : State) :
    respond r (fatalEntry c s.popDraw) =
      { s with
        log := s.log ++ [⟨.error, c.kind⟩], err := if s.err = .noError then c.register else s.err,
        rxfifo := [], txfifo := [], linkOpen := false, rxState := .halted, draws := s.draws.tail,
        drawsUsed := s.drawsUsed + 1,
        response := some ⟨r, (respond r (fatalEntry c s.popDraw)).status⟩ } := rfl

/-- Settles O32: each operation by its precondition. -/
theorem transportPreconditions : Obligations.TransportPreconditions := by
  refine fun s address baudRate maxWait bytes =>
    ⟨fun halted => ?_, fun run o => ?_, execOpen_of_open address baudRate⟩
  · exact ⟨execOpen_of_halted address baudRate halted, whenOpen_of_halted _ halted,
      whenOpen_of_halted _ halted, whenOpen_of_halted _ halted, execRxStep_of_halted maxWait halted⟩
  · exact ⟨whenOpen_of_closed _ run o, whenOpen_of_closed _ run o, whenOpen_of_closed _ run o,
      execRxStep_of_closed maxWait run o⟩

/-! ### OPEN and CLOSE -/

/-- Settles O58: the status registers of `acquireLink`, of which OPEN changes only the link's two. -/
theorem openCompletes : Obligations.OpenCompletes := fun _ address baudRate run o d =>
  execOpen_of_works address baudRate run o d

/-- Settles O25: OPEN by its draw. -/
theorem openAcquiresLink : Obligations.OpenAcquiresLink := by
  intro s address baudRate run o
  cases d : s.currentDraw.fail with
  | false => exact ⟨_, execOpen_of_works address baudRate run o d, fun _ => ⟨rfl, rfl⟩, nofun⟩
  | true =>
    exact ⟨_, execOpen_of_fails address baudRate run o d, nofun, fun _ => respond_fatalEntry_popDraw _ _ s⟩

/-- Settles O26: CLOSE asks nothing of the state. -/
theorem closeReleasesLink : Obligations.CloseReleasesLink := fun s =>
  ⟨respond .ok (closeLink s), rfl, rfl⟩

/-! ### Reading -/

/-- R124: with bytes there a read does not wait. -/
theorem waitForBytes_of_pending {s : State} (n : Nat) (pending : s.rxfifo ≠ []) : waitForBytes n s = s := by
  simp [waitForBytes, pending]

/-- R124: with no byte by the deadline a read waits until then. -/
theorem waitForBytes_of_silent {s : State} {n : Nat} (empty : s.rxfifo = [])
    (silent : ∀ a rest, s.lineIn = a :: rest → s.there (s.now + n) a = false) :
    waitForBytes n s = { s with now := s.now + n } := by
  cases line : s.lineIn with
  | nil => simp [waitForBytes, empty, line]
  | cons a rest => simp [waitForBytes, empty, line, silent a rest line]

/-- R124, R136: a read ends at the first arrival, with every byte that is there then. -/
theorem waitForBytes_of_arrival {s : State} {n : Nat} {a : Arrival} {rest : List Arrival}
    (empty : s.rxfifo = []) (first : s.lineIn = a :: rest) (inTime : s.there (s.now + n) a = true) :
    waitForBytes n s = deliver { s with now := max s.now a.time } := by
  simp [waitForBytes, empty, first, inTime]

/-- R28: a byte that is there by some time is there from its own time on. -/
theorem there_of_time_le {s : State} {t u : Nat} {a : Arrival} (by_t : s.there t a = true) (le : a.time ≤ u) :
    s.there u a = true := by
  simp only [State.there, Bool.and_eq_true, decide_eq_true_eq] at by_t ⊢
  exact ⟨le, by_t.2⟩

/-- R124, R136: the chunk of a read that waited for the first arrival. -/
theorem readChunk_of_arrival {s : State} {n : Nat} {a : Arrival} {rest : List Arrival} (o : s.linkOpen = true)
    (empty : s.rxfifo = []) (first : s.lineIn = a :: rest) (inTime : s.there (s.now + n) a = true) :
    readChunk n s = (s.lineIn.takeWhile (s.there (max s.now a.time))).map Arrival.byte := by
  rw [readChunk, waitForBytes_of_arrival empty first inTime, deliver_rxfifo, if_pos o, empty]
  rfl

/-- R124: such a chunk holds the byte that was waited for. -/
theorem readChunk_ne_nil_of_arrival {s : State} {n : Nat} {a : Arrival} {rest : List Arrival}
    (o : s.linkOpen = true) (empty : s.rxfifo = []) (first : s.lineIn = a :: rest)
    (inTime : s.there (s.now + n) a = true) : readChunk n s ≠ [] := by
  have here : s.there (max s.now a.time) a = true := there_of_time_le inTime (le_max_right _ _)
  rw [readChunk_of_arrival o empty first inTime, first, List.takeWhile_cons_of_pos here]
  exact List.cons_ne_nil _ _

/-- R45: the clock after a read is the clock at the end of its wait. -/
theorem readDone_now (n : Nat) (s : State) : (readDone n s).now = (waitForBytes n s).now := rfl

/-- R124: what READ_AVAILABLE leaves when its read does not fail, in full. -/
theorem respond_readDone_popDraw (r : Result) (n : Nat) (s : State) :
    respond r (readDone n s.popDraw) =
      { s with
        rxfifo := [], lineIn := (readDone n s.popDraw).lineIn, now := (readDone n s.popDraw).now,
        draws := s.draws.tail, drawsUsed := s.drawsUsed + 1,
        response := some ⟨r, (respond r (readDone n s.popDraw)).status⟩ } := by
  have frame := readDone_frame n s.popDraw
  generalize readDone n s.popDraw = u at frame ⊢
  rw [frame]
  rfl

/-- Settles O27: READ_AVAILABLE by its draw; a read that does not fail, by what its wait ends with. -/
theorem readReturnsPendingBytes : Obligations.ReadReturnsPendingBytes := by
  intro s n run o
  cases d : s.currentDraw.fail with
  | true => exact ⟨_, execReadAvailable_of_fails n run o d, fun _ => ⟨rfl, rfl, rfl⟩, nofun⟩
  | false =>
    obtain ⟨notBefore, notAfter⟩ := waitForBytes_now n s.popDraw
    refine ⟨_, execReadAvailable_of_works n run o d, nofun, fun _ => ⟨readChunk n s.popDraw,
      respond_readDone_popDraw _ n s, readChunk_append_readDone_lineIn n s.popDraw o, notBefore, notAfter,
      fun pending => ?_, fun empty silent => ?_, fun empty a rest first inTime => ?_⟩⟩
    · have atOnce := waitForBytes_of_pending (s := s.popDraw) n pending
      exact ⟨(congrArg State.rxfifo atOnce).trans (popDraw_rxfifo s),
        (congrArg State.now atOnce).trans (popDraw_now s)⟩
    · have deadline := waitForBytes_of_silent (s := s.popDraw) empty silent
      exact ⟨(congrArg State.rxfifo deadline).trans empty, congrArg State.now deadline⟩
    · have wakes := congrArg State.now (waitForBytes_of_arrival (s := s.popDraw) empty first inTime)
      rw [respond_now, readDone_now, wakes]
      exact ⟨rfl, readChunk_ne_nil_of_arrival (s := s.popDraw) o empty first inTime,
        readChunk_of_arrival (s := s.popDraw) o empty first inTime⟩

/-- Settles O28: both operations end in the same fatal entry. -/
theorem readFailureIsFatal : Obligations.ReadFailureIsFatal := fun s n run o running d =>
  ⟨_, execReadAvailable_of_fails n run o d, execRxStep_of_read_fails n run o running d,
    respond_fatalEntry_popDraw _ _ s⟩

/-! ### Writing -/

/-- Settles O29: WRITE_FRAME by whether the bytes fit, then by its draw. -/
theorem writeFramePutsBytesOnLine : Obligations.WriteFramePutsBytesOnLine := by
  refine fun s bytes run o => ⟨fun fits => ?_, fun limit bounded long => ?_⟩
  · exact ⟨_, transmit_of_fits run o ((fitsTransport_iff _ _).2 fits), writeOutcome_of_works,
      writeOutcome_of_fails⟩
  · exact transmit_of_not_fits run o (by simpa [fitsTransport, bounded] using long)

/-- Settles O30: FLUSH by whether the device fails and has bytes to put on the line. -/
theorem flushDrainsTransmitSide : Obligations.FlushDrainsTransmitSide := by
  intro s run o
  by_cases works : s.currentDraw.fail = false ∨ s.txfifo = []
  · refine ⟨_, execFlush_of_works run o works, fun _ => rfl, fun d buffered => ?_⟩
    simp [d, buffered] at works
  · obtain ⟨d, buffered⟩ := not_or.1 works
    exact ⟨_, execFlush_of_fails run o (by simpa using d) buffered, fun h => absurd h works, fun _ _ => rfl⟩

end Sys2Proof.Machine
end

section
/-! Proofs of the statements about the sequencer: SEND as WRITE_FRAME of ENCODE, and RX_STEP by its read, its
chunk and the silence. -/

namespace Sys2Proof.Machine

/-! ### SEND -/

/-- R160: SEND transmits the frame ENCODE answers. -/
theorem sendFrame_of_encoded {s u : State} {id command : Byte} {payload f : Bytes}
    (encoded : execEncode id command payload s = .next u) (answer : u.response = some ⟨.bytes f, u.status⟩) :
    sendFrame id command payload s = transmit f s := by
  cases frame : encodeFrame s.params id command payload with
  | none => rw [execEncode, frame] at encoded; cases encoded
  | some g =>
    rw [execEncode, frame] at encoded
    cases encoded
    cases answer
    rw [sendFrame, frame]

/-- R95, R160: SEND passes on a refusal of ENCODE. -/
theorem sendFrame_of_encode_refused {s : State} {id command : Byte} {payload : Bytes} {r : Refusal}
    (refused : execEncode id command payload s = .refused r) : sendFrame id command payload s = .refused r := by
  cases frame : encodeFrame s.params id command payload with
  | none =>
    rw [execEncode, frame] at refused
    cases refused
    rw [sendFrame, frame]
  | some g => rw [execEncode, frame] at refused; cases refused

/-- Settles O31: SEND by what ENCODE answers; a frame that fits goes out by its draw. -/
theorem sendTransmitsEncodedFrame : Obligations.SendTransmitsEncodedFrame := by
  refine fun s id command payload =>
    ⟨fun u f => sendFrame_of_encoded, fun r => sendFrame_of_encode_refused, fun fits run o => ?_⟩
  exact ⟨_, frameBody s.params id command payload,
    sendFrame_eq_next.2 ⟨run, o, (fitsTransport_iff _ _).2 fits, rfl⟩, rfl,
    writeOutcome_of_works, writeOutcome_of_fails⟩

/-! ### The read inside RX_STEP -/

/-- R124: a READ_AVAILABLE that answers bytes is one on an open link that did not fail. -/
theorem execReadAvailable_eq_bytes {n : Nat} {s r : State} {chunk : Bytes}
    (read : execReadAvailable n s = .next r) (answer : r.response = some ⟨.bytes chunk, r.status⟩) :
    s.rxState ≠ .halted ∧ s.linkOpen = true ∧ s.currentDraw.fail = false ∧ chunk = readChunk n s.popDraw ∧
      r = respond (.bytes (readChunk n s.popDraw)) (readDone n s.popDraw) := by
  obtain ⟨run, o, ⟨-, rfl⟩ | ⟨d, rfl⟩⟩ := execReadAvailable_cases read
  · cases answer
  · cases answer
    exact ⟨run, o, d, rfl, rfl⟩

/-- R153: without a shutdown, RX_STEP goes on after its read. -/
theorem execRxStep_of_works {s : State} (n : Nat) (run : s.rxState ≠ .halted) (o : s.linkOpen = true)
    (running : s.shutdown = false) (d : s.currentDraw.fail = false) :
    execRxStep n s = rxAfterRead n s.popDraw := by
  simp [execRxStep, run, running, o, d]

/-- R221: RX_STEP when the shutdown is signalled. -/
theorem execRxStep_of_shutdown {s : State} (n : Nat) (run : s.rxState ≠ .halted) (down : s.shutdown = true) :
    execRxStep n s = .next (respond (.rxStep .halted none) (enterShutdown s)) := by
  simp [execRxStep, run, down]

/-- R162: a chunk that does not fit is refused. -/
theorem rxAfterRead_of_overflow {n : Nat} {s : State} (long : rxOverflows s (readChunk n s) = true) :
    rxAfterRead n s = .refused .rxOverflow :=
  if_pos long

/-- R153: a chunk that fits is appended, and the step finishes. -/
theorem rxAfterRead_of_fits {n : Nat} {s : State} (fits : rxOverflows s (readChunk n s) = false) :
    rxAfterRead n s = .next (finishRxStep (appendChunk (readChunk n s) (readDone n s))) :=
  if_neg (by simp [fits])

/-- R162: what it is for a chunk not to fit. -/
theorem rxOverflows_of_lt {s : State} {chunk : Bytes} {cap : Nat} (filled : chunk ≠ [])
    (bounded : s.params.rxbufCap = some cap) (long : cap < s.rxbuf.length + chunk.length) :
    rxOverflows s chunk = true := by
  simp [rxOverflows, bounded, filled, long]

/-- Settles O33: the chunk READ_AVAILABLE answers is the one RX_STEP reads. -/
theorem rxOverflowRefused : Obligations.RxOverflowRefused := by
  intro s r n cap chunk running read answer filled bounded long
  obtain ⟨run, o, d, rfl, -⟩ := execReadAvailable_eq_bytes read answer
  exact (execRxStep_of_works n run o running d).trans
    (rxAfterRead_of_overflow (rxOverflows_of_lt filled bounded long))

/-! ### The end of RX_STEP -/

/-- R152: with bytes in the buffer, being quiet is a matter of time. -/
theorem quiet_of_filled {s : State} (t : Nat) (filled : s.rxbuf ≠ []) :
    quiet s t = decide (s.tLastRx + s.params.silenceMs ≤ t) := by
  simp [quiet, filled]

/-- R153: the end of a step that finds nothing in the buffer. -/
theorem finishRxStep_of_empty {s : State} (empty : s.rxbuf = []) :
    finishRxStep s = respond (.rxStep .idle none) { s with rxState := .idle } :=
  if_pos empty

/-- R153: the end of a step before the silence is over. -/
theorem finishRxStep_of_early {s : State} (filled : s.rxbuf ≠ [])
    (early : s.now < s.tLastRx + s.params.silenceMs) :
    finishRxStep s = respond (.rxStep .accumulating none) s := by
  rw [finishRxStep, if_neg filled, quiet_of_filled _ filled, if_neg (by simpa using early)]

/-- R153: the end of a step after the silence. -/
theorem finishRxStep_of_late {s : State} (filled : s.rxbuf ≠ [])
    (late : s.tLastRx + s.params.silenceMs ≤ s.now) : finishRxStep s = decodeInStep s := by
  rw [finishRxStep, if_neg filled, quiet_of_filled _ filled, if_pos (by simpa using late)]

/-- R153: every end of a step answers. -/
theorem finishRxStep_response_ne_none (s : State) : (finishRxStep s).response ≠ none := by
  obtain ⟨-, e⟩ | ⟨-, -, e⟩ | ⟨-, -, e⟩ := finishRxStep_cases s <;> rw [e] <;> exact Option.some_ne_none _

/-- Settles O35: a shutdown, a failing read and a good read each end in a next state that answers. -/
theorem rxStepCompletes : Obligations.RxStepCompletes := by
  intro s n run openOrDown fits
  cases down : s.shutdown with
  | true => exact ⟨_, execRxStep_of_shutdown n run down, Option.some_ne_none _⟩
  | false =>
    have o : s.linkOpen = true := openOrDown.resolve_right (by simp [down])
    cases d : s.currentDraw.fail with
    | true => exact ⟨_, execRxStep_of_read_fails n run o down d, Option.some_ne_none _⟩
    | false => exact ⟨_, (execRxStep_of_works n run o down d).trans (rxAfterRead_of_fits (fits down d)),
        finishRxStep_response_ne_none _⟩

/-! ### RX_STEP after a good read -/

/-- R153: the buffer, the quiet interval and the rest of the state once RX_STEP has appended its chunk, in terms
of what READ_AVAILABLE would leave. -/
theorem appendChunk_readDone (c : Bytes) (n : Nat) (s : State) :
    appendChunk c (readDone n s.popDraw) =
      { s with
        rxbuf := s.rxbuf ++ c, tLastRx := if c = [] then s.tLastRx else (readDone n s.popDraw).now,
        rxState := if c = [] then s.rxState else .framing,
        rxfifo := [], lineIn := (readDone n s.popDraw).lineIn, now := (readDone n s.popDraw).now,
        draws := s.draws.tail, drawsUsed := s.drawsUsed + 1 } := by
  rw [appendChunk_frame]
  have frame := readDone_frame n s.popDraw
  generalize readDone n s.popDraw = u at frame ⊢
  rw [frame]
  rfl

/-- Settles O34: RX_STEP reads as READ_AVAILABLE does and appends the chunk; its end is by what is then in the
buffer and by the silence. -/
theorem rxStepAccumulatesThenDecodes : Obligations.RxStepAccumulatesThenDecodes := by
  rintro s r n lastRx chunk buf running read answer rfl rfl room
  obtain ⟨run, o, d, rfl, rfl⟩ := execReadAvailable_eq_bytes read answer
  have fits : rxOverflows s.popDraw (readChunk n s.popDraw) = false :=
    rxOverflows_eq_false.2 fun cap bounded => or_iff_not_imp_left.2 fun filled => by
      simpa using room cap bounded filled
  refine ⟨_, (execRxStep_of_works n run o running d).trans (rxAfterRead_of_fits fits), ?_⟩
  rw [respond_readDone_popDraw, appendChunk_readDone]
  refine ⟨fun empty => ?_, fun filled early => ?_, fun filled late => ?_⟩
  · rw [finishRxStep_of_empty empty]
    obtain ⟨noBuffer, noChunk⟩ := List.append_eq_nil_iff.1 empty
    rw [if_pos noChunk, noChunk, List.append_nil]
    rfl
  · rw [finishRxStep_of_early filled early]
    rfl
  · rw [finishRxStep_of_late filled late]
    exact decodeInStep_eq _

/-- R124: a READ_AVAILABLE that answers bytes leaves `DSTAT` alone. -/
theorem execReadAvailable_dstat {n : Nat} {s r : State} {chunk : Bytes}
    (read : execReadAvailable n s = .next r) (answer : r.response = some ⟨.bytes chunk, r.status⟩) :
    r.dstat = s.dstat := by
  obtain ⟨-, -, -, -, rfl⟩ := execReadAvailable_eq_bytes read answer
  rw [respond_readDone_popDraw]

/-- Settles O36: the silence begins anew with the chunk, so it is over at once only if it is no time at all. -/
theorem readingStepDoesNotDecode : Obligations.ReadingStepDoesNotDecode := by
  intro s r n chunk running read answer room
  obtain ⟨t, step, -, early, late⟩ := rxStepAccumulatesThenDecodes s r n _ chunk _ running read answer rfl rfl
    fun cap bounded _ => room cap bounded
  refine ⟨fun filled threshold => ⟨t, step, ?_⟩, fun zero filled past => ⟨t, step, ?_⟩⟩
  · have dstatKept : r.dstat = s.dstat := execReadAvailable_dstat read answer
    have next := early (by simp [filled]) (by rw [if_neg filled]; omega)
    exact ⟨congrArg State.rxbuf next, (congrArg State.tLastRx next).trans (if_neg filled),
      (congrArg State.dstat next).trans dstatKept,
      (congrArg State.rxState next).trans (if_neg filled), congrArg State.response next⟩
  · have notBefore : s.now ≤ r.now := (effect_of_exec read).grows.now
    have quietEnough : (if chunk = [] then s.tLastRx else r.now) + s.params.silenceMs ≤ r.now := by
      rw [zero, Nat.add_zero]
      split
      next noChunk => exact (past (by simpa [noChunk] using filled)).trans notBefore
      next => exact le_rfl
    have next := late filled quietEnough
    exact ⟨congrArg State.dstat next, congrArg State.rxbuf next, congrArg State.response next⟩

/-! ### A quiet step -/

/-- R124: on an empty, silent line a read returns nothing, and only time passes. -/
theorem readDone_of_silent {s : State} (n : Nat) (empty : s.rxfifo = []) (silent : s.lineIn = []) :
    readDone n s = { s with now := s.now + n } := by
  rw [readDone, waitForBytes_of_silent empty (by simp [silent]), clearRxfifo, ← empty]

/-- R124: the chunk of such a read. -/
theorem readChunk_of_silent {s : State} (n : Nat) (empty : s.rxfifo = []) (silent : s.lineIn = []) :
    readChunk n s = [] := by
  rw [readChunk, waitForBytes_of_silent empty (by simp [silent]), empty]

/-- Settles O38: RX_STEP reads nothing, so it decodes the buffer as it stands, where the frame is the first
candidate behind the noise. -/
theorem quietStepDeliversFrame : Obligations.QuietStepDeliversFrame := by
  intro s n id command payload noise rest run running o d empty silent hid hcommand hpayload start buffer
    quietEnough
  have read := execReadAvailable_of_works n run o d
  rw [readChunk_of_silent (s := s.popDraw) n empty silent,
    readDone_of_silent (s := s.popDraw) n empty silent] at read
  have avoids : fieldsAvoidEnd s.params id command payload = true :=
    fieldsAvoidEnd_iff.2 (by simp [hid.symm, hcommand.symm, hpayload])
  have left : (noise ++ buildFrame s.params id command payload ++ rest).drop
      (noise.length + (buildFrame s.params id command payload).length) = rest := List.drop_left' (by simp)
  have filled : noise ++ buildFrame s.params id command payload ++ rest ≠ [] := by simp [buildFrame_eq]
  obtain ⟨t, step, -, -, late⟩ := rxStepAccumulatesThenDecodes s _ n s.tLastRx [] _ running read rfl
    (buffer.symm.trans (List.append_nil _).symm) (if_pos rfl).symm fun _ _ absent => absurd rfl absent
  have next := late filled quietEnough
  rw [decodeBuffer_buildFrame rest start avoids, left] at next
  exact ⟨t, step, next⟩

end Sys2Proof.Machine
end

section
/-! Proofs of the statements about the host around the block: the dispatch of a received frame, the data-ready
handshake, the module tables, and the fairness of the poll scheduler. -/

namespace Sys2Proof.Machine

/-! ### The poll scheduler -/

/-- R191: the cursor after `NextPoll`, by its phase. -/
theorem advancePoll_pollCursor (s : State) :
    (advancePoll s).pollCursor =
      if s.pollCursor.nextKindIsOutputPoll then ⟨s.pollCursor.currentModuleIndex, false, some s.now⟩
      else ⟨(s.pollCursor.currentModuleIndex + 1) % max s.params.outCount s.params.inCount, true,
        some s.now⟩ := by
  cases kind : s.pollCursor.nextKindIsOutputPoll <;> simp [advancePoll, kind]

/-- R191: the place of the cursor in the round of `2 * M` queries: outputs and inputs of module 0, then of
module 1, and so on. -/
def pollSlot (s : State) : Nat :=
  2 * s.pollCursor.currentModuleIndex + if s.pollCursor.nextKindIsOutputPoll then 0 else 1

/-- R186, R191: the query at a place of the round. -/
def slotQuery (p : Params) (slot : Nat) : Command :=
  if slot % 2 = 0 then requestOutputsCommand p (slot / 2) else requestInputsCommand p (slot / 2)

@[simp] theorem slotQuery_even (p : Params) (m : Nat) : slotQuery p (2 * m) = requestOutputsCommand p m := by
  simp [slotQuery]

@[simp] theorem slotQuery_odd (p : Params) (m : Nat) : slotQuery p (2 * m + 1) = requestInputsCommand p m := by
  have odd : (2 * m + 1) % 2 ≠ 0 := by omega
  have half : (2 * m + 1) / 2 = m := by omega
  rw [slotQuery, if_neg odd, half]

/-- R191: `NextPoll` picks the query at the cursor's place. -/
theorem nextPollCommand_eq_slotQuery (s : State) : nextPollCommand s = slotQuery s.params (pollSlot s) := by
  cases kind : s.pollCursor.nextKindIsOutputPoll <;> simp [nextPollCommand, pollSlot, kind]

/-- A place of the round by its module and kind, once the round has begun anew. -/
theorem two_mul_add_mod_two_mul (a r M : Nat) (kind : r < 2) : (2 * a + r) % (2 * M) = 2 * (a % M) + r := by
  have half : (2 * a + r) / 2 = a := by omega
  have parity : (2 * a + r) % 2 = r := by omega
  rw [Nat.mod_mul, half, parity, Nat.add_comm]

/-- R191: `NextPoll` moves the cursor to the next place of the round. -/
theorem pollSlot_advancePoll {s : State} (range : s.CursorInRange) :
    pollSlot (advancePoll s) = (pollSlot s + 1) % (2 * max s.params.outCount s.params.inCount) := by
  cases kind : s.pollCursor.nextKindIsOutputPoll with
  | true =>
    have inRound := Nat.mod_eq_of_lt range
    simp [pollSlot, advancePoll_pollCursor, kind, two_mul_add_mod_two_mul, inRound]
  | false =>
    have next : 2 * s.pollCursor.currentModuleIndex + 1 + 1 = 2 * (s.pollCursor.currentModuleIndex + 1) := rfl
    simp [pollSlot, advancePoll_pollCursor, kind, next, Nat.mul_mod_mul_left]

theorem advancePoll_cursorInRange {s : State} (range : s.CursorInRange) : (advancePoll s).CursorInRange := by
  rw [State.CursorInRange, advancePoll_pollCursor]
  split
  · exact range
  · exact Nat.mod_lt _ (Nat.zero_lt_of_lt range)

theorem pollSlot_lt {s : State} (range : s.CursorInRange) :
    pollSlot s < 2 * max s.params.outCount s.params.inCount := by
  rw [State.CursorInRange] at range
  rw [pollSlot]
  split <;> omega

/-- R191, R192: consecutive polls issue the queries at consecutive places of the round, whatever their times. -/
theorem pollQueries_eq_map_slotQuery (times : List Nat) {s : State} (range : s.CursorInRange) :
    pollQueries times s = (List.range times.length).map fun k =>
      slotQuery s.params ((pollSlot s + k) % (2 * max s.params.outCount s.params.inCount)) := by
  induction times generalizing s with
  | nil => rfl
  | cons t ts ih =>
    have first : nextPollCommand s = slotQuery s.params
        ((pollSlot s + 0) % (2 * max s.params.outCount s.params.inCount)) := by
      rw [Nat.add_zero, Nat.mod_eq_of_lt (pollSlot_lt range), nextPollCommand_eq_slotQuery]
    have next : pollSlot (advancePoll { s with now := t }) =
        (pollSlot s + 1) % (2 * max s.params.outCount s.params.inCount) := pollSlot_advancePoll range
    have range_next : (advancePoll { s with now := t }).CursorInRange := advancePoll_cursorInRange range
    rw [pollQueries, ih range_next, next, first, List.length_cons, List.range_succ_eq_map, List.map_cons,
      List.map_map]
    refine congrArg _ (List.map_congr_left fun k _ => ?_)
    simp only [advancePoll_params, Function.comp_apply, Nat.mod_add_mod, Nat.succ_eq_add_one, Nat.add_assoc,
      Nat.add_comm 1 k]

/-- R192: a round of polls comes by every place. -/
theorem slotQuery_mem_pollQueries {s : State} {times : List Nat} {slot : Nat} (range : s.CursorInRange)
    (round : times.length = 2 * max s.params.outCount s.params.inCount) (inRound : slot < times.length) :
    slotQuery s.params slot ∈ pollQueries times s := by
  rw [pollQueries_eq_map_slotQuery times range, ← round, List.mem_map]
  have positive := Nat.zero_lt_of_lt inRound
  have start_lt : pollSlot s % times.length < times.length := Nat.mod_lt _ positive
  refine ⟨(slot + (times.length - pollSlot s % times.length)) % times.length,
    List.mem_range.2 (Nat.mod_lt _ positive), congrArg _ ?_⟩
  calc (pollSlot s + (slot + (times.length - pollSlot s % times.length)) % times.length) % times.length
      = (pollSlot s % times.length + (slot + (times.length - pollSlot s % times.length))) % times.length := by
        rw [Nat.add_mod_mod, Nat.mod_add_mod]
    _ = (slot + times.length) % times.length := by congr 1; omega
    _ = slot := by rw [Nat.add_mod_right, Nat.mod_eq_of_lt inRound]

theorem map_range_two_mul {α : Type} (f : Nat → α) (n : Nat) :
    (List.range (2 * n)).map f = ((List.range n).map fun k => [f (2 * k), f (2 * k + 1)]).flatten := by
  induction n with
  | zero => rfl
  | succ n ih => simp [Nat.mul_succ, List.range_succ, ih]

/-- Settles O50: the polls go once around all `2 * M` places; from a pair boundary these are the pairs in
order, and from any place each module's two places are among them. -/
theorem pollSchedulerIsFair : Obligations.PollSchedulerIsFair := by
  rintro s times M rfl range round
  refine ⟨fun boundary => ?_, fun m configured => ?_, fun m configured => ?_⟩
  · have start : pollSlot s = 2 * s.pollCursor.currentModuleIndex := by simp [pollSlot, boundary]
    rw [pollQueries_eq_map_slotQuery times range, round, map_range_two_mul, start]
    refine congrArg _ (List.map_congr_left fun k _ => ?_)
    rw [← Nat.add_assoc, ← Nat.mul_add, Nat.mul_mod_mul_left, two_mul_add_mod_two_mul _ 1 _ (by decide),
      slotQuery_even, slotQuery_odd]
  · have below : 2 * m < times.length := by omega
    simpa using slotQuery_mem_pollQueries range round below
  · have below : 2 * m + 1 < times.length := by omega
    simpa using slotQuery_mem_pollQueries range round below

/-! ### The data-ready token -/

/-- R183: when a poll is due: none has been issued yet, or the interval has elapsed. -/
theorem pollDue_iff {s : State} :
    pollDue s = true ↔
      ∀ last, s.pollCursor.lastPollTimestamp = some last → last + s.params.pollIntervalMs ≤ s.now := by
  unfold pollDue
  cases s.pollCursor.lastPollTimestamp <;> simp

/-- R183: a token for the host that finds no command waiting and a poll due sends the next query. -/
theorem exec_dataReady_of_pollDue {s : State} (payload : Bytes) (empty : s.pending = none)
    (due : pollDue s = true) :
    exec (.dataReady s.params.hostPeerId payload) s =
      sendFrame s.params.controllerId (nextPollCommand s).opcode (nextPollCommand s).payload
        (advancePoll (emit .dataReady s)) := by
  have due' : pollDue (emit .dataReady s) = true := due
  have query : nextPollCommand (emit .dataReady s) = nextPollCommand s := rfl
  simp [exec, execDataReady, handshake, empty, due', query]

/-- R183: a token for the host that finds no command waiting and no poll due only emits its event. -/
theorem exec_dataReady_of_not_pollDue {s : State} (payload : Bytes) (empty : s.pending = none)
    (early : pollDue s = false) :
    exec (.dataReady s.params.hostPeerId payload) s = .next (emit .dataReady s) := by
  have early' : pollDue (emit .dataReady s) = false := early
  simp [exec, execDataReady, handshake, empty, early']

/-- R160: on an open link a command that ENCODE takes is sent as its frame. -/
theorem sendFrame_of_encodeFrame {s : State} {id command : Byte} {payload f : Bytes}
    (run : s.rxState ≠ .halted) (o : s.linkOpen = true)
    (frame : encodeFrame s.params id command payload = some f) :
    sendFrame id command payload s = .next (writeOutcome f s) := by
  obtain ⟨fits, rfl⟩ := encodeFrame_eq_some.1 frame
  exact sendFrame_eq_next.2 ⟨run, o, fits, rfl⟩

theorem writeOutcome_events (b : Bytes) (s : State) : (writeOutcome b s).events = s.events := by
  rw [writeOutcome_frame]

/-- Settles O39: every way a token for the host can end has its event last, since a write emits none. -/
theorem dataReadyTestsId : Obligations.DataReadyTestsId := by
  refine fun s id payload payload' => ⟨fun other => if_neg other, rfl, fun t own answered => ?_⟩
  obtain ⟨other, -⟩ | ⟨-, ⟨-, rfl⟩ | ⟨-, -, b, ⟨-, rfl⟩ | ⟨-, rfl⟩⟩⟩ :=
    execDataReady_cases (payload := payload) answered
  · exact absurd own other
  · rfl
  · rw [writeOutcome_events, drainSlot_events, emit_events]
  · rw [writeOutcome_events, advancePoll_events, emit_events]

/-- Settles O40: the slot is emptied before the frame is written, and a write leaves slot and cursor alone. -/
theorem tokenSendsPendingCommand : Obligations.TokenSendsPendingCommand := by
  intro s payload f c waits run o frame
  have sent := sendFrame_of_encodeFrame (s := drainSlot (emit .dataReady s)) run o frame
  exact ⟨_, (exec_dataReady_of_pending payload waits).trans sent,
    writeOutcome_of_works (s := drainSlot (emit .dataReady s)),
    writeOutcome_of_fails (s := drainSlot (emit .dataReady s))⟩

theorem writeOutcome_pollCursor (b : Bytes) (s : State) : (writeOutcome b s).pollCursor = s.pollCursor := by
  rw [writeOutcome_frame]

/-- Settles O41: the cursor moves before the query is written, and a write leaves it where it is. -/
theorem tokenSendsDuePoll : Obligations.TokenSendsDuePoll := by
  rintro s payload f c n empty run o rfl due query frame
  have picked : c = nextPollCommand s := query
  subst picked
  have sent := sendFrame_of_encodeFrame (s := advancePoll (emit .dataReady s)) run o frame
  have cursor := writeOutcome_pollCursor f (advancePoll (emit .dataReady s))
  refine ⟨_, (exec_dataReady_of_pollDue payload empty (pollDue_iff.2 due)).trans sent,
    cursor.trans (advancePoll_pollCursor _), ?_⟩
  rw [cursor]
  exact ⟨writeOutcome_of_works (s := advancePoll (emit .dataReady s)),
    writeOutcome_of_fails (s := advancePoll (emit .dataReady s))⟩

/-- Settles O42: within the interval no poll is due. -/
theorem tokenWithNothingDueSendsNothing : Obligations.TokenWithNothingDueSendsNothing := by
  intro s payload last empty polled early
  have notDue : pollDue s = false := by
    rw [Bool.eq_false_iff]
    exact fun due => absurd (pollDue_iff.1 due last polled) (Nat.not_le.2 early)
  exact exec_dataReady_of_not_pollDue payload empty notDue

/-! ### The module tables -/

/-- R172: the bit readers of the two tables are one function of the table, its count and its masks' width. -/
def maskBit {w : Nat} (count : Nat) (table : List (BitVec w)) (m bit : Nat) : Bool :=
  decide (m < count) && decide (bit < w) && (table.getD m 0).getLsbD bit

/-- R172: and the mutators are one function too. -/
def storeMask {w : Nat} (count : Nat) (table : List (BitVec w)) (m : Nat) (mask : BitVec w) : List (BitVec w) :=
  if m < count then table.set m mask else table

theorem isOutputOn_eq_maskBit (s : State) (m bit : Nat) :
    isOutputOn s m bit = maskBit s.params.outCount s.outputs m bit := rfl

theorem isInputOn_eq_maskBit (s : State) (m bit : Nat) :
    isInputOn s m bit = maskBit s.params.inCount s.inputs m bit := rfl

theorem setOutputMask_eq_storeMask (s : State) (m : Nat) (mask : Byte) :
    setOutputMask m mask s = { s with outputs := storeMask s.params.outCount s.outputs m mask } := rfl

theorem setInputMask_eq_storeMask (s : State) (m : Nat) (mask : InputMask) :
    setInputMask m mask s = { s with inputs := storeMask s.params.inCount s.inputs m mask } := rfl

section
variable {w count : Nat} {table : List (BitVec w)} {m m' : Nat} {mask : BitVec w}

theorem storeMask_of_lt (configured : m < count) : storeMask count table m mask = table.set m mask :=
  if_pos configured

theorem storeMask_of_le (beyond : count ≤ m) : storeMask count table m mask = table :=
  if_neg (Nat.not_lt.2 beyond)

theorem maskBit_of_le (bit : Nat) (beyond : count ≤ m) : maskBit count table m bit = false := by
  simp [maskBit, Nat.not_lt.2 beyond]

theorem maskBit_storeMask_same (bit : Nat) (sized : table.length = count) :
    maskBit count (storeMask count table m mask) m bit =
      (decide (m < count) && decide (bit < w) && mask.getLsbD bit) := by
  obtain configured | beyond := Nat.lt_or_ge m count
  · simp [maskBit, storeMask_of_lt configured, sized, configured]
  · simp [maskBit_of_le bit beyond, Nat.not_lt.2 beyond]

theorem maskBit_storeMask_of_ne (bit : Nat) (other : m' ≠ m) :
    maskBit count (storeMask count table m mask) m' bit = maskBit count table m' bit := by
  obtain configured | beyond := Nat.lt_or_ge m count
  · simp [maskBit, storeMask_of_lt configured, List.getElem?_set_ne other.symm]
  · rw [storeMask_of_le beyond]

end

/-- Settles O49: both tables are read and written by the same two functions. -/
theorem moduleBitsReadBack : Obligations.ModuleBitsReadBack := by
  rintro s m m' bit mask wide ⟨outputsSized, inputsSized⟩
  simp only [isOutputOn_eq_maskBit, isInputOn_eq_maskBit, setOutputMask_eq_storeMask,
    setInputMask_eq_storeMask]
  refine ⟨maskBit_storeMask_same bit outputsSized, maskBit_storeMask_same bit inputsSized,
    fun other => ⟨maskBit_storeMask_of_ne bit other, maskBit_storeMask_of_ne bit other⟩,
    fun beyond => ?_, fun beyond => ?_⟩
  · rw [storeMask_of_le beyond]
  · rw [storeMask_of_le beyond]

/-! ### Reports and activations -/

theorem outputReportAccepted_iff {p : Params} {payload : Bytes} :
    outputReportAccepted p payload = true ↔ 2 ≤ payload.length ∧ (payload.getD 0 0).toNat < p.outCount := by
  simp [outputReportAccepted, reportModule]

theorem inputReportAccepted_iff {p : Params} {payload : Bytes} :
    inputReportAccepted p payload = true ↔ 3 ≤ payload.length ∧ (payload.getD 0 0).toNat < p.inCount := by
  simp [inputReportAccepted, reportModule]

/-- R178: an output report that is acted on. -/
theorem exec_outputStateReport_of_accepted {s : State} {payload : Bytes} (id : Byte)
    (accepted : outputReportAccepted s.params payload = true) :
    exec (.outputStateReport id payload) s =
      .next (emit (.outputState (reportModule payload) (reportOutputMask payload))
        (setOutputMask (reportModule payload) (reportOutputMask payload) s)) :=
  congrArg Host.Outcome.next (if_pos accepted)

/-- R179: an input report that is acted on. -/
theorem exec_inputStateReport_of_accepted {s : State} {payload : Bytes} (id : Byte)
    (accepted : inputReportAccepted s.params payload = true) :
    exec (.inputStateReport id payload) s =
      .next (emit (.inputState (reportModule payload) (reportInputMask payload))
        (setInputMask (reportModule payload) (reportInputMask payload) s)) :=
  congrArg Host.Outcome.next (if_pos accepted)

/-- Settles O43: the report is acted on, and its module is one of the table. -/
theorem outputReportStoresMask : Obligations.OutputReportStoresMask := by
  intro s id m mask rest configured
  have accepted : outputReportAccepted s.params (m :: mask :: rest) = true :=
    outputReportAccepted_iff.2 ⟨by simp, configured⟩
  rw [exec_outputStateReport_of_accepted id accepted, setOutputMask_eq_storeMask]
  exact congrArg (fun table => Host.Outcome.next (emit (.outputState m.toNat mask) { s with outputs := table }))
    (storeMask_of_lt configured)

/-- R41: two bytes put together low byte first fit in a mask of 16 bits. -/
theorem toNat_reportInputMask (m low high : Byte) (rest : Bytes) :
    (reportInputMask (m :: low :: high :: rest)).toNat = low.toNat + 256 * high.toNat := by
  have fits : low.toNat + 256 * high.toNat < 2 ^ 16 := by omega
  exact (BitVec.toNat_ofNat _ 16).trans (Nat.mod_eq_of_lt fits)

/-- Settles O44: the same with the mask of two bytes. -/
theorem inputReportStoresMask : Obligations.InputReportStoresMask := by
  intro s id m low high rest configured
  refine ⟨reportInputMask (m :: low :: high :: rest), toNat_reportInputMask m low high rest, ?_⟩
  have accepted : inputReportAccepted s.params (m :: low :: high :: rest) = true :=
    inputReportAccepted_iff.2 ⟨by simp, configured⟩
  rw [exec_inputStateReport_of_accepted id accepted, setInputMask_eq_storeMask]
  exact congrArg (fun table => Host.Outcome.next (emit (.inputState m.toNat _) { s with inputs := table }))
    (storeMask_of_lt configured)

/-- Settles O45: whether an activation is acted on is a matter of its length only. -/
theorem activationEmitsEvent : Obligations.ActivationEmitsEvent := by
  intro s id m k rest short tooShort
  have accepted : activationAccepted (m :: k :: rest) = true := by simp [activationAccepted]
  have ignored : ¬ activationAccepted short = true := by simpa [activationAccepted] using tooShort
  exact ⟨congrArg Host.Outcome.next (if_pos accepted), congrArg Host.Outcome.next (if_neg ignored)⟩

/-- Settles O46: a report that is too short or of no configured module is not acted on. -/
theorem malformedReportIsOnlyCounted : Obligations.MalformedReportIsOnlyCounted := by
  refine fun s id payload => ⟨fun malformed => ?_, fun malformed => ?_⟩
  · have ignored : ¬ outputReportAccepted s.params payload = true := by
      rw [outputReportAccepted_iff]
      omega
    exact congrArg Host.Outcome.next (if_neg ignored)
  · have ignored : ¬ inputReportAccepted s.params payload = true := by
      rw [inputReportAccepted_iff]
      omega
    exact congrArg Host.Outcome.next (if_neg ignored)

/-! ### Unknown frames and the host's commands -/

/-- R182: a frame of another command byte than the four is ignored. -/
theorem decode_dispatchFrame_of_unknown {p : Params} {f : Bytes} (whole : (decodeBuffer p f).frame = some f)
    (unknown : frameCommand f ∉
      [p.opcDataReady, p.opcOutputStateReport, p.opcInputStateReport, p.opcInputActivated]) :
    decode p (.dispatchFrame f) = .rejected .ignoredCommand := by
  simp only [List.mem_cons, List.not_mem_nil, or_false, not_or] at unknown
  obtain ⟨notReady, notOutput, notInput, notActivated⟩ := unknown
  simp [decode, decodeDispatch, whole, classifyFrame, notReady, notOutput, notInput, notActivated]

theorem issue_of_ignoredCommand {s : State} {a : HostAction}
    (ignored : decode s.params a = .rejected .ignoredCommand) : issue a s = .next s := by
  simp [issue, ignored]

/-- Settles O22: the frame leaves the agenda and selects no instruction. -/
theorem unknownCommandIgnored : Obligations.UnknownCommandIgnored := by
  intro s f rest noRestart valid first whole unknown
  calc step s = issue (.dispatchFrame f) (setAgenda rest (beginStep s)) :=
        step_of_agenda_cons noRestart first valid
    _ = .next (setAgenda rest (beginStep s)) :=
        issue_of_ignoredCommand (decode_dispatchFrame_of_unknown whole unknown)

/-- Settles O47: the three meanings are `enqueue` of the row's command. -/
theorem commandsAreQueued : Obligations.CommandsAreQueued := fun _ _ _ _ =>
  ⟨⟨rfl, rfl, rfl⟩, rfl, rfl, rfl⟩

end Sys2Proof.Machine
end

section
/-! Proofs of the statements about the exceptions: what the fatal entry and a shutdown save, and that only a
restart leaves `Halted`. -/

namespace Sys2Proof.Machine

/-! ### The ways into `Halted` -/

/-- R226: the fatal entry, field by field. -/
theorem fatalEntry_eq (c : FatalCause) (s : State) :
    fatalEntry c s =
      { s with
        log := s.log ++ [⟨.error, c.kind⟩], err := if s.err = .noError then c.register else s.err,
        linkOpen := false, rxfifo := [], txfifo := [], rxState := .halted } := rfl

/-- Settles O51: `fatalEntry_eq` for the two causes. -/
theorem fatalEntryEffect : Obligations.FatalEntryEffect := fun s =>
  ⟨fatalEntry_eq .linkUnavailable s, fatalEntry_eq .transportReadError s⟩

/-- R221: the answer of an RX_STEP that saw the shutdown, field by field. -/
theorem respond_enterShutdown (r : Result) (s : State) :
    respond r (enterShutdown s) =
      { s with
        rxfifo := [], txfifo := [], linkOpen := false, err := .shutdown, rxState := .halted,
        response := some ⟨r, (respond r (enterShutdown s)).status⟩ } := rfl

/-- Settles O37: RX_STEP by the shutdown signal, which it tests before the link and the draw. -/
theorem shutdownHaltsAtRxStep : Obligations.ShutdownHaltsAtRxStep := fun s maxWait run down =>
  ⟨_, execRxStep_of_shutdown maxWait run down, respond_enterShutdown _ s⟩

/-! ### A halted block -/

/-- R120, R226: a halted block refuses what could transmit, but for a token with nothing to send. -/
theorem not_transmits_or_emits_of_halted {i : Instr} {s t : State} (halted : s.rxState = .halted)
    (h : exec i s = .next t) : ¬ Transmits s.params i ∨ t = emit .dataReady s := by
  refine or_iff_not_imp_left.2 fun tx => ?_
  cases not_not.1 tx with
  | writeFrame bytes => exact absurd halted (transmit_eq_next.1 h).1
  | send id command payload => exact absurd halted (sendFrame_eq_next.1 h).1
  | flush => exact absurd halted (execFlush_cases h).1
  | token payload =>
    obtain ⟨other, -⟩ | ⟨-, ⟨-, emits⟩ | ⟨run, -⟩⟩ := execDataReady_cases (payload := payload) h
    · exact absurd rfl other
    · exact emits
    · exact absurd halted run

/-- R226, R229: in a halted block no instruction touches the sequencer, `ERR` or the line: every effect that
would is one of a running block or of an instruction that transmits. -/
theorem exec_of_halted {i : Instr} {s t : State} (halted : s.rxState = .halted) (h : exec i s = .next t) :
    t.rxState = .halted ∧ t.err = s.err ∧ t.rxbuf = s.rxbuf ∧ t.lineOut = s.lineOut ∧
      t.tLastRx = s.tLastRx ∧ t.dstat = s.dstat := by
  obtain silent | rfl := not_transmits_or_emits_of_halted halted h
  · cases effect_of_exec h with
    | opens _ _ run | fails _ _ run | shutsDown _ run | reads _ _ run | receives _ run =>
      exact absurd halted run
    | flushes tx | flushFails tx | writes tx | sendsPending tx | sendsPoll tx => exact absurd tx silent
    | _ => simp [halted]
  · simp [halted]

/-- Settles O55: the environment's part of a step writes none of the six fields, and in a halted block no
instruction does. -/
theorem haltedUntilReset : Obligations.HaltedUntilReset := by
  intro s t halted noRestart h
  obtain ⟨restart, -⟩ | ⟨-, -, rfl⟩ | ⟨-, _, rest, -, -, ⟨i, -, -, he⟩ | ⟨-, rfl⟩⟩ := step_cases h
  · simp [noRestart] at restart
  · simp [halted]
  · exact exec_of_halted (s := setAgenda rest (beginStep s)) halted he
  · simp [halted]

end Sys2Proof.Machine
end

section
/-! Proofs of the statements about reset: a restart is the whole step and puts the block and the host to their
reset values. -/

namespace Sys2Proof.Machine

/-! ### The restart -/

/-- R240: a restart is the whole step: the host has no turn, and even a step it would refuse answers. -/
theorem step_of_restart {s : State} (restarts : s.currentTick.restart = true) :
    step s = .next (restart (beginStep s)) := by
  simp [step, turn, restarts]

/-- R240, R242, R243: of the environment's part before a restart the reset values leave the clock, the line's
input and the tick used; the shutdown signal, the submitted command and the bytes that arrived are lost. -/
theorem restart_beginStep (s : State) :
    restart (beginStep s) =
      { State.resetWith s.params with
        lineIn := (beginStep s).lineIn, now := (beginStep s).now,
        agenda := s.agenda.filter (fun a => !isReceivedFrame a),
        ticks := s.ticks.tail, ticksUsed := s.ticksUsed + 1, draws := s.draws, drawsUsed := s.drawsUsed } := by
  simp only [restart, beginStep_params, beginStep_agenda, beginStep_ticks, beginStep_ticksUsed,
    beginStep_draws, beginStep_drawsUsed]

/-- Settles O21: the step is the restart of what the environment's part left. -/
theorem restartResets : Obligations.RestartResets := fun s restarts =>
  ⟨_, step_of_restart restarts, restart_beginStep s⟩

end Sys2Proof.Machine
end
